-- ==== Sys2Proof/Word.lean ====
section
/-! DEFINITION. The bit-vector widths the spec uses (spec/00_scope.md R7): byte, u16, u32 (also the carrier
of an i32, two's complement), u64. -/

namespace Sys2Proof

/-- 8 bits. -/
abbrev Byte := BitVec 8

/-- 16 bits (`HWCUR`, the event word, a port number). -/
abbrev Half := BitVec 16

/-- 32 bits: `u32`, and the bit pattern of an `i32`. -/
abbrev Word := BitVec 32

/-- 64 bits: one gate descriptor. -/
abbrev DWord := BitVec 64

end Sys2Proof
end

