-- ==== Sys2Proof/Config.lean ====
section
/-! DEFINITION. The parameter record `CFG` (spec/00_scope.md R6) as plain data, and the free values: what the spec
leaves at "any value" (spec/93_implementation_defined.md U4, U7, U20). A free value is an opaque constant: nothing in
Lean can evaluate it or prove a value of it. Which records are well formed is `Machine.configOk`; the reference
record is `Machine.refConfig`. -/

namespace Sys2Proof

/-- Descriptor type of the installed gates (`GATE_TYPE`; spec/10_state.md R27). -/
inductive GateType where
  | interrupt
  | trap
  deriving DecidableEq, Repr

/-- What DRAW_CHARACTER does with a `ch` outside [0, 256) (`DRAW_CH_CHECK`; spec/43_console.md R185). -/
inductive DrawChCheck where
  | check
  | truncate
  deriving DecidableEq, Repr

/-- The parameters of spec/00_scope.md R6. `HIDE_POS` is no field: R6 fixes it to `ROWS * COLS`
(`Machine.hidePos`); `TIMER_HZ` is the document's constant (`timerHz`); `CLIENT` is `Machine.State.client`. -/
structure Config where
  /-- `ROWS` -/
  rows : Nat
  /-- `COLS` -/
  cols : Nat
  /-- `GRID_BASE` -/
  gridBase : Nat
  /-- `BLANK` -/
  blank : Byte
  /-- `DEFAULT_COLOR` -/
  defaultColor : Byte
  /-- `KBUF_CAP` -/
  kbufCap : Nat
  /-- `NVEC` -/
  nvec : Nat
  /-- `VEC_TIMER` -/
  vecTimer : Byte
  /-- `VEC_KBD` -/
  vecKbd : Byte
  /-- `ENTRY_TIMER` -/
  entryTimer : Word
  /-- `ENTRY_KBD` -/
  entryKbd : Word
  /-- `CODE_SEL` -/
  codeSel : Half
  /-- `GATE_DPL` -/
  gateDpl : BitVec 2
  /-- `GATE_TYPE` -/
  gateType : GateType
  /-- `IDT_BASE` -/
  idtBase : Word
  /-- `TICK_WIDTH` -/
  tickWidth : Nat
  /-- `TIMER_DIVISOR` -/
  timerDivisor : Half
  /-- `INT_CTL_PORT`, a byte by R6 -/
  intCtlPort : Byte
  /-- `INT_ACK` -/
  intAck : Byte
  /-- `KBD_PORT`; R6 states no width for it nor for the ports below (DESIGN CHOICE, log entry 30). -/
  kbdPort : Half
  /-- `TIMER_MODE_PORT` -/
  timerModePort : Half
  /-- `TIMER_MODE` -/
  timerMode : Byte
  /-- `TIMER_PERIOD_PORT` -/
  timerPeriodPort : Half
  /-- `CRTC_IDX_PORT` -/
  crtcIdxPort : Half
  /-- `CRTC_DATA_PORT` -/
  crtcDataPort : Half
  /-- `CRTC_CUR_MSB` -/
  crtcCurMsb : Byte
  /-- `CRTC_CUR_LSB` -/
  crtcCurLsb : Byte
  /-- `AUG_PREFIX` -/
  augPrefix : Byte
  /-- `KEYMAP` as a table: the entry of (aug, code) stands under `128 * aug + code`; no entry is `nodata`
  (spec/42_keyboard.md R157). -/
  keymap : List (Nat × Byte)
  /-- `DRAW_CH_CHECK` -/
  drawChCheck : DrawChCheck
  /-- `CMD_BASE`; R6 asks for 4-byte alignment and states no width (DESIGN CHOICE, log entry 29). -/
  cmdBase : Word
  deriving DecidableEq, Repr

/-- `TIMER_HZ = 100`, the document's figure; no rule uses it (spec/70_reset_and_hazards.md R252). -/
def timerHz : Nat := 100

/-- FREE VALUE: the byte a GRID address held at reset (spec/10_state.md R44, "any value" per byte, a draw fixed at
reset). Log entry 6. -/
opaque Config.gridDraw : Nat → Byte

/-- FREE VALUE: the byte a KBUF slot held at reset (spec/10_state.md R44). Log entry 7. -/
opaque Config.kbufDraw : Nat → Byte

/-- FREE VALUE: the byte of a CLIENT address the state does not list (spec/20_memory.md R67: a total function, OPEN).
Log entry 8. -/
opaque Config.clientDraw : Nat → Byte

/-- FREE VALUE: what the n-th read of `CMD` returns (spec/10_state.md R23, spec/93_implementation_defined.md U7).
Log entry 9. -/
opaque Config.cmdReadDraw : Nat → Word

end Sys2Proof
end

