-- ==== Sys2Proof/Machine/Gates.lean ====
section
/-! DEFINITION. The gate descriptor: its fields (spec/10_state.md R27), the function that builds a present one
(spec/40_dispatch.md R120), and which descriptors use no reserved value (spec/93_implementation_defined.md U6). -/

namespace Sys2Proof.Machine

/-- Bits 15:0, `off_lo`. -/
def gateOffLo (g : DWord) : Half := g.extractLsb' 0 16

/-- Bits 31:16, `sel`. -/
def gateSel (g : DWord) : Half := g.extractLsb' 16 16

/-- Bits 39:32, reserved. -/
def gateReserved (g : DWord) : Byte := g.extractLsb' 32 8

/-- Bits 43:40, `type`. -/
def gateType (g : DWord) : BitVec 4 := g.extractLsb' 40 4

/-- Bit 44, `s`. -/
def gateS (g : DWord) : Bool := g.getLsbD 44

/-- Bits 46:45, `dpl`. -/
def gateDpl (g : DWord) : BitVec 2 := g.extractLsb' 45 2

/-- Bit 47, `p`. -/
def gatePresent (g : DWord) : Bool := g.getLsbD 47

/-- Bits 63:48, `off_hi`. -/
def gateOffHi (g : DWord) : Half := g.extractLsb' 48 16

/-- The entry point `off_hi ++ off_lo`. -/
def gateEntry (g : DWord) : Word := gateOffHi g ++ gateOffLo g

/-- The `type` field of an interrupt gate: delivery is disabled while the handler runs (spec/60_exceptions.md R221). -/
def interruptGateType : BitVec 4 := 0xE

/-- The `type` field of a trap gate. -/
def trapGateType : BitVec 4 := 0xF

/-- The `type` value a configuration installs. -/
def gateTypeBits : GateType → BitVec 4
  | .interrupt => interruptGateType
  | .trap => trapGateType

/-- `MakeGate` (R120). The reserved byte and the `s` bit contribute nothing. -/
def makeGate (cfg : Config) (entry : Word) : DWord :=
  (entry.extractLsb' 0 16).setWidth 64
    ||| (cfg.codeSel.setWidth 64 <<< 16)
    ||| ((gateTypeBits cfg.gateType).setWidth 64 <<< 40)
    ||| (cfg.gateDpl.setWidth 64 <<< 45)
    ||| ((1 : DWord) <<< 47)
    ||| ((entry.extractLsb' 16 16).setWidth 64 <<< 48)

/-- A descriptor with no reserved value: the all-zero entry that is not present, or one with a legal type and zeros in
bits 39:32 and 44 (R27). -/
def gateLegal (g : DWord) : Bool :=
  g == 0
    || ((gateType g == interruptGateType || gateType g == trapGateType) && gateReserved g == 0 && !gateS g)

end Sys2Proof.Machine
end

