-- ==== Sys2Proof/Machine/Reference.lean ====
section
/-! DEFINITION. The reference configuration REFCFG (spec/00_scope.md R6). Its OPEN parameters `ENTRY_TIMER`,
`ENTRY_KBD`, `IDT_BASE` take the values the spec's vectors use (spec/95_test_vectors.md); `CMD_BASE`, for which the spec
uses no value, is 0 (DESIGN CHOICE, log entry 1). -/

namespace Sys2Proof.Machine

/-- REFCFG. -/
def refConfig : Config where
  rows := 25
  cols := 80
  gridBase := 0x000B8000
  blank := 0x20
  defaultColor := 0x07
  kbufCap := 256
  nvec := 256
  vecTimer := 0x20
  vecKbd := 0x21
  entryTimer := 0x00101000
  entryKbd := 0x00101010
  codeSel := 0x0010
  gateDpl := 0
  gateType := .interrupt
  idtBase := 0x00100000
  tickWidth := 32
  timerDivisor := 11932
  intCtlPort := 0x20
  intAck := 0x20
  kbdPort := 0x60
  timerModePort := 0x43
  timerMode := 0x36
  timerPeriodPort := 0x40
  crtcIdxPort := 0x3D4
  crtcDataPort := 0x3D5
  crtcCurMsb := 14
  crtcCurLsb := 15
  augPrefix := 0xE0
  keymap := refKeymap
  drawChCheck := .check
  cmdBase := 0

end Sys2Proof.Machine
end

