-- ==== Sys2Proof/Syntax.lean ====
section
/-! DEFINITION. The instructions of the block: sixteen client commands and the reserved opcodes (format `CMD8`), and
three classes of interrupt event (format `EVT16`); spec/30_encoding.md R90, R94, R95, R96. One constructor per row of
spec/opcode_table.json. A command has no operand fields: its operands are whatever `A0`..`A3` hold (R91). -/

namespace Sys2Proof

/-- One step of the block: a command, or an interrupt event with the bits its word carries (R93). -/
inductive Instr where
  /-- 0x01, 40_dispatch R121. -/
  | installInterrupts
  /-- 0x02, 41_timer R141. -/
  | installTimer
  /-- 0x03, 41_timer R143. -/
  | getTicks
  /-- 0x10, 42_keyboard R153. -/
  | readCharacter
  /-- 0x20, 43_console R175. -/
  | putCharacter
  /-- 0x21, 43_console R176. -/
  | putString
  /-- 0x22, 43_console R177. -/
  | setColor
  /-- 0x23, 43_console R178. -/
  | getColor
  /-- 0x24, 43_console R179. -/
  | setCursor
  /-- 0x25, 43_console R180. -/
  | getCursor
  /-- 0x26, 43_console R181. -/
  | hideCursor
  /-- 0x27, 43_console R182. -/
  | showCursor
  /-- 0x28, 43_console R184. -/
  | clear
  /-- 0x29, 43_console R185. -/
  | drawCharacter
  /-- 0x2A, 43_console R186. -/
  | readCharacterAt
  /-- 0x2B, 43_console R183. -/
  | scroll
  /-- Every other opcode byte, 30_encoding R96. -/
  | reserved (opcode : Byte)
  /-- `v = VEC_TIMER`, 40_dispatch R124; `d` is carried and ignored (R93). -/
  | intTimer (d : Byte)
  /-- `v = VEC_KBD`, 40_dispatch R125; `d` is the byte the keyboard data port returns. -/
  | intKbd (d : Byte)
  /-- Any other vector, 40_dispatch R126; `d` is carried and ignored (R93). -/
  | intOther (v : Byte) (d : Byte)
  deriving DecidableEq, Repr

end Sys2Proof
end

