-- ==== Sys2Proof/Machine/State.lean ====
section
/-! DEFINITION. The state of the block as plain data (spec/10_state.md R20), the parameters R45 names, the model's own
fields, the fault and refusal reasons, and the state after reset (R44). -/

namespace Sys2Proof.Machine

/-- Sparse data under natural-number keys, strictly rising, no entry equal to what an unlisted key reads as
(`Store.wf`; log entry 19). -/
abbrev Store (α : Type) := List (Nat × α)

/-- Bytes by address. -/
abbrev Memory := List Host.Cell

/-- Why the machine stops: the model faults of spec/60_exceptions.md R216. A meaning that meets one sets the sticky
`FAULT` (spec/10_state.md R43); the step of a state whose `FAULT` is set answers `Host.Outcome.fault` with it. Both are
safe: the hardware would go on, the model stops. -/
inductive Fault where
  /-- Raised by interrupt entry (`enter`, R221) for INT_TIMER, INT_KBD, INT_OTHER: no table loaded, or the vector's
  gate is not present. Safe. -/
  | gateNotPresent (v : Byte)
  /-- Raised by READ_CHARACTER_AT (spec/43_console.md R186) with coordinates outside the grid. Safe. -/
  | uncheckedReadOutOfRange (row col : Word)
  deriving DecidableEq, Repr

/-- Why a state or an input has no meaning in the model. All are safe: nothing is concluded from a refused step. -/
inductive Refusal where
  /-- Raised by an arm of `exec` whose instruction has no meaning yet (none is left). Safe. -/
  | notModelled (mnemonic : String)
  /-- Raised by `whenReady`: the configuration breaks a constraint of spec/00_scope.md R6 or has trap gates
  (spec/93_implementation_defined.md U5, U14). Safe. -/
  | configNotWellFormed
  /-- Raised by `whenReady`: an element lies outside its type in spec/10_state.md R20, so this is no state of the
  block. Safe. -/
  | stateOutOfRange
  /-- Raised by `whenReady`: a gate has a reserved type or a reserved bit set (spec/93_implementation_defined.md U6).
  Safe. -/
  | reservedGate
  /-- Raised by `fetch`: a bus access at an address that is no register of the command port
  (spec/30_encoding.md R100). Safe. -/
  | outsideCommandPort (addr : Word)
  deriving DecidableEq, Repr

/-- The output events of spec/10_state.md R40. -/
inductive OutEvent where
  | ack (v : Byte)
  | diag (v : Byte)
  | callback (cb : Word) (t : Nat)
  | timerProgram (d : Half)
  | idtLoad (base : Word) (limit : Half)
  deriving DecidableEq, Repr

/-- The interrupt base register (spec/10_state.md R26). -/
structure Idtr where
  base : Word
  limit : Half
  deriving DecidableEq, Repr

/-- The registers of the command port's bus view (spec/30_encoding.md R100). -/
inductive PortReg where
  | cmd
  | operand (i : Fin 4)
  | result (i : Fin 2)
  deriving DecidableEq, Repr

/-- What the two agents present to the block (spec/00_scope.md R10): the client's bus accesses to the command port
(spec/30_encoding.md R100) and the interrupt source's event words (R93). -/
inductive Input where
  | write (addr value : Word)
  | read (addr : Word)
  | event (w : Half)
  deriving DecidableEq, Repr

/-- The Interrupt Context Snapshot (spec/10_state.md R41), transient and so no field of `State`: the vector, and of the
saved flags the enable bit that the return restores. Everything else in it is opaque to the block (log entry 15). -/
structure Snapshot where
  vector : Byte
  ie : Bool
  deriving DecidableEq, Repr

/-- The state record of spec/10_state.md R20; see INVENTORY.md for the rule behind each field. -/
structure State where
  /-- `CFG` (R45): the parameters, which no step changes (log entry 1). -/
  cfg : Config
  /-- `CFG.CLIENT` (spec/20_memory.md R67): the client's memory, which no step changes (log entry 8). -/
  client : Memory
  /-- Model's own: what the two agents present next, oldest first (log entry 2). -/
  inbox : List Input
  /-- Model's own: the value the last bus read returned (log entry 9). -/
  busData : Word
  /-- Model's own: how many free values reads of `CMD` have taken (log entry 9). -/
  draws : Nat
  /-- `A0` (R21) -/
  a0 : Word
  /-- `A1` (R21) -/
  a1 : Word
  /-- `A2` (R21) -/
  a2 : Word
  /-- `A3` (R21) -/
  a3 : Word
  /-- `R0` (R22) -/
  r0 : Word
  /-- `R1` (R22) -/
  r1 : Word
  /-- `IE` (R25) -/
  ie : Bool
  /-- `IDT_LOADED` (R25) -/
  idtLoaded : Bool
  /-- `IDTR` (R26) -/
  idtr : Idtr
  /-- `GATE` (R26): the entry of vector v under key v, an unlisted one being 0. -/
  gates : Store DWord
  /-- `TICKS` (R29), below `2 ^ TICK_WIDTH`. -/
  ticks : Nat
  /-- `CB` (R30), 0 for no callback. -/
  cb : Word
  /-- `TIMER_ARMED` (R25) -/
  timerArmed : Bool
  /-- `KBUF` (R31) by index -/
  kbuf : Memory
  /-- `KHEAD` (R31) -/
  khead : Nat
  /-- `KTAIL` (R31) -/
  ktail : Nat
  /-- `KCOUNT` (R31) -/
  kcount : Nat
  /-- `DEC_AUG` (R33) -/
  decAug : Bool
  /-- `ROW` (R34) -/
  row : Nat
  /-- `COL` (R34) -/
  col : Nat
  /-- `COLOR` (R35) -/
  color : Byte
  /-- `HIDDEN` (R36) -/
  hidden : Bool
  /-- `HWCUR` (R37) -/
  hwcur : Half
  /-- `GRID` (R39) by byte address (spec/20_memory.md R61) -/
  grid : Memory
  /-- `OUT` (R40), oldest first -/
  out : List OutEvent
  /-- `FAULT` (R43) -/
  fault : Option Fault
  deriving DecidableEq, Repr

/-- The outcome of one step of the block. -/
abbrev Result := Host.Outcome State Fault Refusal

/-- What the block finds at the front of its inbox: an instruction to run, or a step that is none (a bus access, or
nothing at all), with that step's outcome. -/
inductive Fetched where
  | instr (i : Instr) (s : State)
  | bus (r : Result)

/-- The state after reset of a block configured by `cfg` (spec/10_state.md R44, spec/70_reset_and_hazards.md R240).
`A0`..`A3`, `R0`, `R1` are unspecified there and 0 here (DESIGN CHOICE, log entry 5). -/
def State.resetWith (cfg : Config) : State where
  cfg := cfg
  client := []
  inbox := []
  busData := 0
  draws := 0
  a0 := 0
  a1 := 0
  a2 := 0
  a3 := 0
  r0 := 0
  r1 := 0
  ie := false
  idtLoaded := false
  idtr := ⟨0, 0⟩
  gates := []
  ticks := 0
  cb := 0
  timerArmed := false
  kbuf := []
  khead := 0
  ktail := 0
  kcount := 0
  decAug := false
  row := 0
  col := 0
  color := cfg.defaultColor
  hidden := false
  hwcur := 0
  grid := []
  out := []
  fault := none

/-- The state after reset in REFCFG. -/
def State.reset : State := State.resetWith refConfig

end Sys2Proof.Machine
end

