-- ==== Sys2Proof/Machine/Ops.lean ====
section
/-! DEFINITION. The named operations over memory and registers: the canonical store, the address spaces
(spec/20_memory.md R60, R75), well-formed configurations (spec/00_scope.md R6), the guard of every step
(spec/10_state.md R43), result registers and output events (R22, R40), and interrupt entry and return
(spec/60_exceptions.md R221, R222). -/

namespace Sys2Proof.Machine

/-! ### The canonical store (log entry 19) -/

/-- The value under key `a`; an unlisted key reads as `dflt a`. -/
def Store.read {α : Type} (dflt : Nat → α) : Store α → Nat → α
  | [], a => dflt a
  | (k, w) :: rest, a => if a = k then w else Store.read dflt rest a

/-- Puts an entry before the first greater key. -/
def Store.insert {α : Type} (a : Nat) (v : α) : Store α → Store α
  | [] => [(a, v)]
  | (k, w) :: rest => if a < k then (a, v) :: (k, w) :: rest else (k, w) :: Store.insert a v rest

/-- Drops every entry under key `a`. -/
def Store.erase {α : Type} (a : Nat) (m : Store α) : Store α :=
  m.filter fun e => e.1 != a

/-- Sets the value under key `a`. Writing what an unlisted key reads as leaves the key unlisted. -/
def Store.write {α : Type} [DecidableEq α] (dflt : Nat → α) (m : Store α) (a : Nat) (v : α) : Store α :=
  if v = dflt a then Store.erase a m else Store.insert a v (Store.erase a m)

/-- The canonical form: keys strictly rising, no entry equal to what an unlisted key reads as. -/
abbrev Store.wf {α : Type} [DecidableEq α] (dflt : Nat → α) (m : Store α) : Prop :=
  m.Pairwise (fun p q => p.1 < q.1) ∧ ∀ e ∈ m, e.2 ≠ dflt e.1

/-- The canonical form of a byte memory whose unlisted bytes read as `dflt`. -/
abbrev Memory.wf (dflt : Nat → Byte) (m : Memory) : Prop := Store.wf dflt m

/-- An unlisted gate is not present: the all-zero entry (spec/10_state.md R27, R44). -/
def gateDraw (_ : Nat) : DWord := 0

/-- Runs `f 0`, `f 1`, ..., `f (n - 1)` in that order: the spec's `for i in 0 .. n-1 (ascending)`. -/
def forUp {α : Type} : Nat → (Nat → α → α) → α → α
  | 0, _, x => x
  | n + 1, f, x => f n (forUp n f x)

/-! ### Parameters (spec/00_scope.md R6) -/

/-- `HIDE_POS = ROWS * COLS`. -/
def hidePos (cfg : Config) : Nat := cfg.rows * cfg.cols

/-- The constraints of R6, and `GATE_TYPE = interrupt` (spec/93_implementation_defined.md U5, U14). -/
def configOk (cfg : Config) : Bool :=
  1 ≤ cfg.rows && 1 ≤ cfg.cols && cfg.rows * cfg.cols ≤ 65535
    && cfg.gridBase % 2 == 0 && cfg.gridBase + 2 * (cfg.rows * cfg.cols) ≤ 2 ^ 32
    && 1 ≤ cfg.kbufCap && cfg.kbufCap ≤ 2 ^ 31 - 1
    && cfg.vecTimer.toNat < cfg.nvec && cfg.vecKbd.toNat < cfg.nvec && cfg.nvec ≤ 256
    && cfg.vecTimer != cfg.vecKbd
    && cfg.idtBase.toNat % 8 == 0 && 1 ≤ cfg.tickWidth && 1 ≤ cfg.timerDivisor.toNat
    && cfg.cmdBase.toNat % 4 == 0 && cfg.gateType == .interrupt

/-! ### The address spaces (spec/20_memory.md R60, R75) -/

/-- `CellAddr(r, c)` (R61). -/
def cellAddr (cfg : Config) (r c : Nat) : Nat := cfg.gridBase + 2 * (r * cfg.cols + c)

/-- `MemRead(GRID, a, 1)`. -/
def gridRead (s : State) (a : Nat) : Byte := Store.read Config.gridDraw s.grid a

/-- `MemWrite(GRID, a, 1, v)`. -/
def gridWrite (a : Nat) (v : Byte) (s : State) : State :=
  { s with grid := Store.write Config.gridDraw s.grid a v }

/-- `MemRead(KBUF, i, 1)`. -/
def kbufRead (s : State) (i : Nat) : Byte := Store.read Config.kbufDraw s.kbuf i

/-- `MemWrite(KBUF, i, 1, v)`. -/
def kbufWrite (i : Nat) (v : Byte) (s : State) : State :=
  { s with kbuf := Store.write Config.kbufDraw s.kbuf i v }

/-- `MemRead(CLIENT, a, 1)`; a 32-bit address is already taken modulo 2^32. -/
def clientRead (s : State) (a : Word) : Byte := Store.read Config.clientDraw s.client a.toNat

/-- `GATE[v]`; a vector beyond the table has no entry and reads as not present (log entry 14). -/
def gateAt (s : State) (v : Nat) : DWord := Store.read gateDraw s.gates v

/-- `MemWrite(GATE, v, 8, d)`. -/
def gateWrite (v : Nat) (d : DWord) (s : State) : State :=
  { s with gates := Store.write gateDraw s.gates v d }

/-- The GATE space by byte address (R76): entry `v` lies at `IDT_BASE + 8 * v`, least significant byte first (R62). The
addresses of a table that reaches past 2^32 do not wrap (DESIGN CHOICE, log entry 31). -/
def gateByte (s : State) (a : Nat) : Option Byte :=
  let off := a - s.cfg.idtBase.toNat
  if s.cfg.idtBase.toNat ≤ a ∧ off < 8 * s.cfg.nvec then
    some ((gateAt s (off / 8)).extractLsb' (8 * (off % 8)) 8)
  else none

/-! ### Which states take a step -/

/-- Every element lies in its type (spec/10_state.md R20). -/
def inRange (s : State) : Bool :=
  s.row < s.cfg.rows && s.col < s.cfg.cols
    && s.khead < s.cfg.kbufCap && s.ktail < s.cfg.kbufCap && s.kcount ≤ s.cfg.kbufCap
    && s.ticks < 2 ^ s.cfg.tickWidth && s.gates.all (fun e => e.1 < s.cfg.nvec)

/-- No gate of the table holds a reserved value (spec/93_implementation_defined.md U6). -/
def gatesOk (s : State) : Bool := s.gates.all fun e => gateLegal e.2

/-- The states that take steps: no fault, a well-formed configuration, every element in its type, legal gates. -/
def ready (s : State) : Bool := s.fault.isNone && configOk s.cfg && inRange s && gatesOk s

/-- The guard of every step. A state with `FAULT ≠ none` takes none (spec/10_state.md R43); a state the model refuses
answers why. -/
def whenReady (s : State) (r : Result) : Result :=
  match s.fault with
  | some f => .fault f
  | none =>
    if configOk s.cfg then
      if inRange s then
        if gatesOk s then r else .refused .reservedGate
      else .refused .stateOutOfRange
    else .refused .configNotWellFormed

/-! ### Registers and outputs -/

/-- `OK` (spec/00_scope.md R9). -/
def resOk : Word := 0

/-- `ERR_INVAL = -1` (R9). -/
def resErrInval : Word := BitVec.ofInt 32 (-1)

/-- `NONE = -1` (R9). -/
def resNone : Word := BitVec.ofInt 32 (-1)

/-- `R[0] <- v`. -/
def setR0 (v : Word) (s : State) : State := { s with r0 := v }

/-- `R[1] <- v`. -/
def setR1 (v : Word) (s : State) : State := { s with r1 := v }

/-- `emit E` (spec/00_scope.md R8). -/
def emit (e : OutEvent) (s : State) : State := { s with out := s.out ++ [e] }

/-- `raise Fault(kind)` (spec/00_scope.md R8, spec/10_state.md R43): sets the sticky model fault and nothing else. -/
def raiseFault (f : Fault) (s : State) : State := { s with fault := some f }

/-- Writes the interrupt-enable flag. -/
def setIe (b : Bool) (s : State) : State := { s with ie := b }

/-! ### Interrupt entry and return -/

/-- `Enter(v)` (spec/60_exceptions.md R221): through a missing table or a gate that is not present the model fault;
otherwise the snapshot is taken, and an interrupt gate clears `IE` while a trap gate leaves it. -/
def enter (v : Byte) (s : State) : Except Fault (Snapshot × State) :=
  if s.idtLoaded && gatePresent (gateAt s v.toNat) then
    .ok (⟨v, s.ie⟩, if gateType (gateAt s v.toNat) = interruptGateType then setIe false s else s)
  else .error (.gateNotPresent v)

/-- `Return()` (R222): the saved flags are restored and with them `IE`, which was 1 at entry (R218); the snapshot
ceases to exist. -/
def ret (snap : Snapshot) (s : State) : State := setIe snap.ie s

end Sys2Proof.Machine
end

