-- ==== Sys2Proof/Machine/Flags.lean ====
section
/-! DEFINITION. The one-bit status flags of spec/10_state.md R25 and what writes them. There are no arithmetic
condition codes. `IE` is written in Ops.lean, where interrupt entry and return need it. -/

namespace Sys2Proof.Machine

/-- `IDT_LOADED <- 1`: set by INSTALL_INTERRUPTS, cleared by nothing but reset. -/
def setIdtLoaded (s : State) : State := { s with idtLoaded := true }

/-- `TIMER_ARMED <- 1`: bookkeeping that no rule reads (spec/41_timer.md R140). -/
def setTimerArmed (s : State) : State := { s with timerArmed := true }

/-- `HIDDEN <- b`: set by HIDE_CURSOR, cleared by SHOW_CURSOR (R36). -/
def setHidden (b : Bool) (s : State) : State := { s with hidden := b }

/-- `DEC_AUG <- b`: written by READ_CHARACTER only (R33). -/
def setDecAug (b : Bool) (s : State) : State := { s with decAug := b }

end Sys2Proof.Machine
end

