-- ==== Sys2Proof/Machine/Operands.lean ====
section
/-! DEFINITION. The operand forms of spec/30_encoding.md R92. Each operand is a whole 32-bit register; a handle
(R92 d) is stored as it is, and needs no form. -/

namespace Sys2Proof.Machine

/-- Range-checked integer (R92 a): the signed value, compared with [0, bound) as a mathematical integer
(spec/00_scope.md R13 a), when it passes. -/
def rangeChecked (v : Word) (bound : Nat) : Option Nat :=
  if 0 ≤ v.toInt ∧ v.toInt < bound then some v.toInt.toNat else none

/-- Byte (R92 b): bits 7:0, bits 31:8 being ignored. -/
def byteOf (v : Word) : Byte := v.extractLsb' 0 8

/-- The byte address of the `i`-th byte of a string at address `v` (R92 c): `(v + i) mod 2^32`. -/
def addressOf (v : Word) (i : Nat) : Word := v + BitVec.ofNat 32 i

/-- The number of bytes PUT_STRING prints: its signed `length`, none when that is not positive (R92). -/
def lengthOf (v : Word) : Nat := v.toInt.toNat

/-- `zext_32` of a byte. -/
def zextByte (b : Byte) : Word := b.setWidth 32

/-- A coordinate or count as the register value it is read back as. -/
def wordOf (n : Nat) : Word := BitVec.ofNat 32 n

/-- A coordinate pair inside the grid, both range-checked (spec/43_console.md R179, R185, R186). -/
def inGrid (cfg : Config) (row col : Word) : Option (Nat × Nat) :=
  match rangeChecked row cfg.rows, rangeChecked col cfg.cols with
  | some r, some c => some (r, c)
  | _, _ => none

end Sys2Proof.Machine
end

