-- ==== Sys2Proof/Machine/Console.lean ====
section
/-! DEFINITION. The console family (spec/43_console.md): `WriteCell`, `ReadCell`, `Scroll`, `NewLine`, `SyncHw`,
`PutCh`, and the twelve console commands. None of them touches the dispatcher, timer or keyboard state or `OUT`. -/

namespace Sys2Proof.Machine

/-! ### Micro-operations -/

/-- The character byte of a cell. -/
def cellCh (s : State) (r c : Nat) : Byte := gridRead s (cellAddr s.cfg r c)

/-- The attribute byte of a cell. -/
def cellAt (s : State) (r c : Nat) : Byte := gridRead s (cellAddr s.cfg r c + 1)

/-- `WriteCell(r, c, ch, at)` (R170): two byte writes, the character first (spec/20_memory.md R64). -/
def writeCell (r c : Nat) (ch attr : Byte) (s : State) : State :=
  gridWrite (cellAddr s.cfg r c + 1) attr (gridWrite (cellAddr s.cfg r c) ch s)

/-- Copies cell (r + 1, c) to cell (r, c), both bytes. -/
def copyCellUp (r c : Nat) (s : State) : State := writeCell r c (cellCh s (r + 1) c) (cellAt s (r + 1) c) s

/-- Blanks a cell in the current colour. -/
def blankCell (r c : Nat) (s : State) : State := writeCell r c s.cfg.blank s.color s

/-- Blanks a row in the current colour. -/
def blankRow (r : Nat) (s : State) : State := forUp s.cfg.cols (fun c => blankCell r c) s

/-- Copies row r + 1 to row r. -/
def copyRowUp (r : Nat) (s : State) : State := forUp s.cfg.cols (fun c => copyCellUp r c) s

/-- `Scroll()` (R171): rows ascending, whole cells, then the last row blank. -/
def scrollGrid (s : State) : State := blankRow (s.cfg.rows - 1) (forUp (s.cfg.rows - 1) copyRowUp s)

/-- `ROW <- r; COL <- c`. -/
def setCursor (r c : Nat) (s : State) : State := { s with row := r, col := c }

/-- `NewLine()` (R172). -/
def newLine (s : State) : State :=
  if s.row + 1 ≥ s.cfg.rows then scrollGrid (setCursor s.row 0 s) else setCursor (s.row + 1) 0 s

/-- `ROW * COLS + COL`. -/
def linearPos (s : State) : Nat := s.row * s.cfg.cols + s.col

/-- `SyncHw()` (R173). -/
def syncHw (s : State) : State :=
  { s with hwcur := BitVec.ofNat 16 (if s.hidden then hidePos s.cfg else linearPos s) }

/-- The backspace of `PutCh` (R174): one cell back in linear order, clamped at the first cell, which is blanked. -/
def backspace (s : State) : State :=
  let p := linearPos s - 1
  let s1 := setCursor (p / s.cfg.cols) (p % s.cfg.cols) s
  blankCell s1.row s1.col s1

/-- The printing arm of `PutCh` (R174): the byte in the current colour, then one cell on, wrapping. -/
def printByte (ch : Byte) (s : State) : State :=
  let s1 := writeCell s.row s.col ch s.color s
  if s1.col + 1 < s1.cfg.cols then setCursor s1.row (s1.col + 1) s1 else newLine s1

/-- `PutCh(ch)` (R174). -/
def putCh (ch : Byte) (s : State) : State :=
  if ch = 0x0A then newLine s
  else if ch = 0x0D then setCursor s.row 0 s
  else if ch = 0x08 then backspace s
  else printByte ch s

/-- Blanks every cell in the current colour (R184). -/
def clearGrid (s : State) : State := forUp s.cfg.rows blankRow s

/-- The cell at which the display renders the hardware cursor, if it renders one (spec/10_state.md R37). -/
def renderedCursor (s : State) : Option (Nat × Nat) :=
  if s.hwcur.toNat < s.cfg.rows * s.cfg.cols then
    some (s.hwcur.toNat / s.cfg.cols, s.hwcur.toNat % s.cfg.cols)
  else none

/-! ### Output commands -/

/-- PUT_CHARACTER (R175). -/
def execPutCharacter (s : State) : Result :=
  whenReady s <| .next <| setR0 (zextByte (byteOf s.a0)) (syncHw (putCh (byteOf s.a0) s))

/-- The loop body of PUT_STRING for the byte at index `i` of the string at `base` (R176). -/
def putStringByte (base : Word) (i : Nat) (s : State) : State :=
  syncHw (putCh (clientRead s (addressOf base i)) s)

/-- PUT_STRING (R176): a null reference or a length that is not positive prints nothing. -/
def execPutString (s : State) : Result :=
  whenReady s <| .next <|
    if s.a0 = 0 ∨ s.a1.toInt ≤ 0 then setR0 resOk s
    else setR0 resOk (forUp (lengthOf s.a1) (putStringByte s.a0) s)

/-! ### Colour and cursor commands -/

/-- SET_COLOR (R177). -/
def execSetColor (s : State) : Result :=
  whenReady s <| .next <|
    match rangeChecked s.a0 256 with
    | some _ => setR0 resOk { s with color := byteOf s.a0 }
    | none => setR0 resErrInval s

/-- GET_COLOR (R178). -/
def execGetColor (s : State) : Result :=
  whenReady s <| .next <| setR0 (zextByte s.color) s

/-- SET_CURSOR (R179). -/
def execSetCursor (s : State) : Result :=
  whenReady s <| .next <|
    match inGrid s.cfg s.a0 s.a1 with
    | some (r, c) => setR0 resOk (syncHw (setCursor r c s))
    | none => setR0 resErrInval s

/-- GET_CURSOR (R180). -/
def execGetCursor (s : State) : Result :=
  whenReady s <| .next <| setR1 (wordOf s.col) (setR0 (wordOf s.row) s)

/-- HIDE_CURSOR (R181). -/
def execHideCursor (s : State) : Result :=
  whenReady s <| .next <| setR0 resOk (syncHw (setHidden true s))

/-- SHOW_CURSOR (R182). -/
def execShowCursor (s : State) : Result :=
  whenReady s <| .next <| setR0 resOk (syncHw (setHidden false s))

/-! ### Grid commands -/

/-- SCROLL (R183): the cursor does not move. -/
def execScroll (s : State) : Result :=
  whenReady s <| .next <| setR0 resOk (scrollGrid s)

/-- CLEAR (R184): `HIDDEN` and `COLOR` keep their values. -/
def execClear (s : State) : Result :=
  whenReady s <| .next <| setR0 resOk (syncHw (setCursor 0 0 (clearGrid s)))

/-- The `ch` check of DRAW_CHARACTER, which a configuration may turn off (R185). -/
def drawChOk (s : State) : Bool :=
  s.cfg.drawChCheck == .truncate || (rangeChecked s.a2 256).isSome

/-- DRAW_CHARACTER (R185). -/
def execDrawCharacter (s : State) : Result :=
  whenReady s <| .next <|
    match inGrid s.cfg s.a0 s.a1 with
    | some (r, c) =>
      if (rangeChecked s.a3 256).isSome && drawChOk s then
        setR0 resOk (writeCell r c (byteOf s.a2) (byteOf s.a3) s)
      else setR0 resErrInval s
    | none => setR0 resErrInval s

/-- READ_CHARACTER_AT (R186): outside the grid the sticky model fault, and `R0` keeps its value. -/
def execReadCharacterAt (s : State) : Result :=
  whenReady s <| .next <|
    match inGrid s.cfg s.a0 s.a1 with
    | some (r, c) => setR0 (zextByte (cellCh s r c)) s
    | none => raiseFault (.uncheckedReadOutOfRange s.a0 s.a1) s

end Sys2Proof.Machine
end

