-- ==== Sys2Proof/Machine/Keyboard.lean ====
section
/-! DEFINITION. The keyboard family (spec/42_keyboard.md): the producer `KbdPush`, `KbdHandler`, the consumer `KbdPop`,
`DecodeStep`, READ_CHARACTER. -/

namespace Sys2Proof.Machine

/-- The successor of a ring index (spec/20_memory.md R68). -/
def nextIndex (cfg : Config) (i : Nat) : Nat := (i + 1) % cfg.kbufCap

/-- `KbdPush(b)` (R150): a full ring drops the new byte and says so nowhere. -/
def kbdPush (b : Byte) (s : State) : State :=
  if s.kcount < s.cfg.kbufCap then
    { kbufWrite s.khead b s with khead := nextIndex s.cfg s.khead, kcount := s.kcount + 1 }
  else s

/-- `KbdHandler(d)` (R151): the one byte the data port returned is pushed raw. -/
def kbdHandler (d : Byte) (s : State) : State := kbdPush d s

/-- `KbdPop()` (R152): the oldest byte, or none when the ring is empty. -/
def kbdPop (s : State) : Option Byte × State :=
  if 0 < s.kcount then
    (some (kbufRead s s.ktail), { s with ktail := nextIndex s.cfg s.ktail, kcount := s.kcount - 1 })
  else (none, s)

/-- `KEYMAP(aug, code)` (R157): a byte, or no data. -/
def keymapAt (cfg : Config) (aug : Bool) (code : BitVec 7) : Option Byte :=
  cfg.keymap.lookup ((if aug then 128 else 0) + code.toNat)

/-- `b[7]`: the break (release) bit. -/
def isBreak (b : Byte) : Bool := b.getLsbD 7

/-- `b[6:0]`: the key code. -/
def keyCode (b : Byte) : BitVec 7 := b.extractLsb' 0 7

/-- `DecodeStep(b)` (R154): the character of a completed, data-carrying press, if this byte completes one. -/
def decodeStep (b : Byte) (s : State) : Option Byte × State :=
  if b = s.cfg.augPrefix then (none, setDecAug true s)
  else (if isBreak b then none else keymapAt s.cfg s.decAug (keyCode b), setDecAug false s)

/-- What READ_CHARACTER returns for a decoder result. -/
def characterResult : Option Byte → Word
  | some k => zextByte k
  | none => resNone

/-- The poll of READ_CHARACTER: at most one byte is consumed; an empty ring leaves the decoder as it is (R153). -/
def pollKey (s : State) : Option Byte × State :=
  match kbdPop s with
  | (none, s1) => (none, s1)
  | (some b, s1) => decodeStep b s1

/-- READ_CHARACTER (R153). -/
def execReadCharacter (s : State) : Result :=
  whenReady s <| .next <| setR0 (characterResult (pollKey s).1) (pollKey s).2

end Sys2Proof.Machine
end

