-- ==== Sys2Proof/Machine/Timer.lean ====
section
/-! DEFINITION. The timer family (spec/41_timer.md): `TimerProgram`, `TimerHandler`, INSTALL_TIMER, GET_TICKS. -/

namespace Sys2Proof.Machine

/-- `TimerProgram()` (R140). -/
def timerProgram (s : State) : State := setTimerArmed (emit (.timerProgram s.cfg.timerDivisor) s)

/-- The tick increment, modulo `2 ^ TICK_WIDTH` (R144). -/
def nextTick (cfg : Config) (t : Nat) : Nat := (t + 1) % 2 ^ cfg.tickWidth

/-- `TICKS <- (TICKS + 1) mod 2^TICK_WIDTH`. -/
def tick (s : State) : State := { s with ticks := nextTick s.cfg s.ticks }

/-- `TimerHandler()` (R142): the callback is invoked with the count just written. -/
def timerHandler (s : State) : State :=
  let s1 := tick s
  if s1.cb = 0 then s1 else emit (.callback s1.cb s1.ticks) s1

/-- INSTALL_TIMER (R141). -/
def execInstallTimer (s : State) : Result :=
  whenReady s <| .next <| setR0 resOk { timerProgram s with cb := s.a0, ticks := 0 }

/-- GET_TICKS (R143): the low 32 bits of the counter. -/
def execGetTicks (s : State) : Result :=
  whenReady s <| .next <| setR0 (wordOf s.ticks) s

end Sys2Proof.Machine
end

