-- ==== Sys2Proof/Machine/Interrupts.lean ====
section
/-! DEFINITION. The dispatcher family (spec/40_dispatch.md): INSTALL_INTERRUPTS, `Ack`, `Dispatch`, the whole event step
`Enter(v); Dispatch(v, d); Return()` (spec/60_exceptions.md R218, R221, R222), and the three event classes. -/

namespace Sys2Proof.Machine

/-- `Ack(v)` (R123). -/
def acknowledge (v : Byte) (s : State) : State := emit (.ack v) s

/-- `Dispatch(v, d)` (R122): defined for every vector and every state. -/
def dispatch (v d : Byte) (s : State) : State :=
  if v = s.cfg.vecTimer then acknowledge v (timerHandler s)
  else if v = s.cfg.vecKbd then acknowledge v (kbdHandler d s)
  else emit (.diag v) s

/-- The size of the gate table in bytes minus one (spec/10_state.md R26). -/
def idtLimit (cfg : Config) : Half := BitVec.ofNat 16 (8 * cfg.nvec - 1)

/-- Every entry of the table set to not present. -/
def clearGates (s : State) : State := forUp s.cfg.nvec (fun v => gateWrite v 0) s

/-- The table INSTALL_INTERRUPTS writes: exactly the timer and keyboard gates present (R121, spec/10_state.md R28). -/
def installGates (s : State) : State :=
  gateWrite s.cfg.vecKbd.toNat (makeGate s.cfg s.cfg.entryKbd)
    (gateWrite s.cfg.vecTimer.toNat (makeGate s.cfg s.cfg.entryTimer) (clearGates s))

/-- `IDTR` loaded with the table, `IDT_LOADED <- 1`, and the load sent to the processor. -/
def loadIdt (s : State) : State :=
  emit (.idtLoad s.cfg.idtBase (idtLimit s.cfg))
    (setIdtLoaded { s with idtr := ⟨s.cfg.idtBase, idtLimit s.cfg⟩ })

/-- INSTALL_INTERRUPTS (R121): `IE` is set last. -/
def execInstallInterrupts (s : State) : Result :=
  whenReady s <| .next <| setR0 resOk (setIe true (timerProgram (loadIdt (installGates s))))

/-- One event step. With `IE = 0` the event is not taken and has no effect (spec/60_exceptions.md R218; log entry 3);
a failed entry sets the model fault and nothing else (R221). -/
def takeEvent (v d : Byte) (s : State) : Result :=
  whenReady s <| .next <|
    if s.ie then
      match enter v s with
      | .error f => raiseFault f s
      | .ok (snap, s1) => ret snap (dispatch snap.vector d s1)
    else s

/-- INT_TIMER (R124). -/
def execIntTimer (d : Byte) (s : State) : Result := takeEvent s.cfg.vecTimer d s

/-- INT_KBD (R125). -/
def execIntKbd (d : Byte) (s : State) : Result := takeEvent s.cfg.vecKbd d s

/-- INT_OTHER (R126). -/
def execIntOther (v d : Byte) (s : State) : Result := takeEvent v d s

end Sys2Proof.Machine
end

