-- ==== Sys2Proof/WellFormed.lean ====
section
/-! DEFINITION. Which terms of `Instr` are instructions under a configuration: a reserved opcode is one of the 240
bytes of spec/30_encoding.md R96, and an `INT_OTHER` carries a vector that is neither `VEC_TIMER` nor `VEC_KBD` (R95). -/

namespace Sys2Proof

/-- The reserved opcode bytes as R96 lists them: 0x00, 0x04 to 0x0F, 0x11 to 0x1F, 0x2C to 0xFF. -/
def isReservedOpcode (b : Byte) : Bool :=
  b == 0x00 || (0x04 ≤ b && b ≤ 0x0F) || (0x11 ≤ b && b ≤ 0x1F) || 0x2C ≤ b

/-- A vector the routing rule sends to neither handler (R95). -/
def isOtherVector (cfg : Config) (v : Byte) : Bool :=
  v != cfg.vecTimer && v != cfg.vecKbd

/-- The well-formed instructions under `cfg`. -/
def wellFormed (cfg : Config) : Instr → Bool
  | .reserved b => isReservedOpcode b
  | .intOther v _ => isOtherVector cfg v
  | .installInterrupts | .installTimer | .getTicks | .readCharacter | .putCharacter | .putString | .setColor
  | .getColor | .setCursor | .getCursor | .hideCursor | .showCursor | .clear | .drawCharacter | .readCharacterAt
  | .scroll | .intTimer _ | .intKbd _ => true

end Sys2Proof
end

