-- ==== Sys2Proof/Decode.lean ====
section
/-! DEFINITION. Decoding and encoding (spec/30_encoding.md): `CMD8` opcode bytes (R91, R94, R96), `EVT16` words (R93,
R95), a decoder of the bytes a carrier presents, and the encoder written from the same tables. Decoding is total and
depends on no state (R103). The two carriers are told apart by where a word arrives, never by its bits (R90). -/

namespace Sys2Proof

/-- The two carriers of R90: the client's command port and the interrupt source. -/
inductive Carrier where
  | command
  | event
  deriving DecidableEq, Repr

/-- Why a byte stream holds no instruction. -/
inductive DecodeReject where
  /-- The carrier presented no byte of a `CMD8` opcode. -/
  | commandTruncated
  /-- The carrier presented fewer than the two bytes of an `EVT16` word. -/
  | eventTruncated
  deriving DecidableEq, Repr

/-- The opcode map of R94, every other byte being reserved (R96). All eight bits are matched (R91). -/
def decodeCommand (b : Byte) : Instr :=
  match b.toNat with
  | 0x01 => .installInterrupts
  | 0x02 => .installTimer
  | 0x03 => .getTicks
  | 0x10 => .readCharacter
  | 0x20 => .putCharacter
  | 0x21 => .putString
  | 0x22 => .setColor
  | 0x23 => .getColor
  | 0x24 => .setCursor
  | 0x25 => .getCursor
  | 0x26 => .hideCursor
  | 0x27 => .showCursor
  | 0x28 => .clear
  | 0x29 => .drawCharacter
  | 0x2A => .readCharacterAt
  | 0x2B => .scroll
  | _ => .reserved b

/-- Bits 7:0 of an event word, the vector (R93). -/
def eventVector (w : Half) : Byte := w.extractLsb' 0 8

/-- Bits 15:8 of an event word, the byte the keyboard data port returns (R93). -/
def eventData (w : Half) : Byte := w.extractLsb' 8 8

/-- The event classes of R95, the first matching row winning. -/
def decodeEvent (cfg : Config) (w : Half) : Instr :=
  if eventVector w = cfg.vecTimer then .intTimer (eventData w)
  else if eventVector w = cfg.vecKbd then .intKbd (eventData w)
  else .intOther (eventVector w) (eventData w)

/-- The first instruction of the bytes a carrier presents, and the bytes after it. An event word lies with its least
significant byte first (spec/20_memory.md R62). -/
def decodeBytes (cfg : Config) : Carrier → List Byte → Except DecodeReject (Instr × List Byte)
  | .command, b :: rest => .ok (decodeCommand b, rest)
  | .command, [] => .error .commandTruncated
  | .event, lo :: hi :: rest => .ok (decodeEvent cfg (hi ++ lo), rest)
  | .event, _ => .error .eventTruncated

/-- The carrier an instruction arrives on. -/
def carrierOf : Instr → Carrier
  | .intTimer _ | .intKbd _ | .intOther _ _ => .event
  | .installInterrupts | .installTimer | .getTicks | .readCharacter | .putCharacter | .putString | .setColor
  | .getColor | .setCursor | .getCursor | .hideCursor | .showCursor | .clear | .drawCharacter | .readCharacterAt
  | .scroll | .reserved _ => .command

/-- The bytes of an event word with vector `v` and data `d` (R93). -/
def encodeEvent (v d : Byte) : List Byte := [v, d]

/-- The bytes of an instruction as its carrier presents them, from the tables of R94 and R95. -/
def encode (cfg : Config) : Instr → List Byte
  | .installInterrupts => [0x01]
  | .installTimer => [0x02]
  | .getTicks => [0x03]
  | .readCharacter => [0x10]
  | .putCharacter => [0x20]
  | .putString => [0x21]
  | .setColor => [0x22]
  | .getColor => [0x23]
  | .setCursor => [0x24]
  | .getCursor => [0x25]
  | .hideCursor => [0x26]
  | .showCursor => [0x27]
  | .clear => [0x28]
  | .drawCharacter => [0x29]
  | .readCharacterAt => [0x2A]
  | .scroll => [0x2B]
  | .reserved b => [b]
  | .intTimer d => encodeEvent cfg.vecTimer d
  | .intKbd d => encodeEvent cfg.vecKbd d
  | .intOther v d => encodeEvent v d

/-- The instruction of a decoded byte stream, when nothing is left over. -/
def wholeInstr : Except DecodeReject (Instr × List Byte) → Option Instr
  | .ok (i, []) => some i
  | _ => none

/-- The instruction the decoder reads from the `nbits` bits `w`: up to eight bits are a `CMD8` opcode on the command
port, nine to sixteen an `EVT16` word of the interrupt source, in the reference configuration (log entry 20). -/
def decodeTableWord (nbits w : Nat) : Option Instr :=
  if nbits = 0 then none
  else if nbits ≤ 8 then wholeInstr (decodeBytes Machine.refConfig .command [BitVec.ofNat 8 w])
  else if nbits ≤ 16 then
    wholeInstr (decodeBytes Machine.refConfig .event [BitVec.ofNat 8 w, BitVec.ofNat 8 (w / 256)])
  else none

end Sys2Proof
end

