-- ==== Sys2Proof/Machine/Port.lean ====
section
/-! DEFINITION. The command port (spec/10_state.md R21 to R23, spec/30_encoding.md R100): its bus view, the reserved
opcodes (R96), and `fetch`, which takes the next input of the two agents from the inbox (log entry 2). -/

namespace Sys2Proof.Machine

/-- RESERVED (R96): `R0 <- ERR_INVAL`, nothing else. -/
def execReserved (_opcode : Byte) (s : State) : Result :=
  whenReady s <| .next <| setR0 resErrInval s

/-- The register at a bus address (R100). A bus address has 32 bits, and the offset of an address from `CMD_BASE` is
taken modulo 2^32, so the registers of a `CMD_BASE` within 0x1C of 2^32 go on at address 0 (DESIGN CHOICE,
log entry 29). -/
def portReg (cfg : Config) (addr : Word) : Option PortReg :=
  match (addr - cfg.cmdBase).toNat with
  | 0x00 => some .cmd
  | 0x04 => some (.operand 0)
  | 0x08 => some (.operand 1)
  | 0x0C => some (.operand 2)
  | 0x10 => some (.operand 3)
  | 0x14 => some (.result 0)
  | 0x18 => some (.result 1)
  | _ => none

/-- The bus address of a register (R100), modulo 2^32 (DESIGN CHOICE, log entry 29). -/
def portAddr (cfg : Config) : PortReg → Word
  | .cmd => cfg.cmdBase
  | .operand i => cfg.cmdBase + BitVec.ofNat 32 (0x04 + 4 * i)
  | .result i => cfg.cmdBase + BitVec.ofNat 32 (0x14 + 4 * i)

/-- The client's write of an operand register (R21). -/
def writeOperand (i : Fin 4) (v : Word) (s : State) : State :=
  match i with
  | 0 => { s with a0 := v }
  | 1 => { s with a1 := v }
  | 2 => { s with a2 := v }
  | 3 => { s with a3 := v }

/-- The value a bus read returns: the register's, and for `CMD` a free value (R23, R100). -/
def portValue (s : State) : PortReg → Word
  | .cmd => Config.cmdReadDraw s.draws
  | .operand 0 => s.a0
  | .operand 1 => s.a1
  | .operand 2 => s.a2
  | .operand 3 => s.a3
  | .result 0 => s.r0
  | .result 1 => s.r1

/-- A bus read: no effect on the block; only the model's own fields record it (log entry 9). -/
def busRead (r : PortReg) (s : State) : State :=
  { s with busData := portValue s r, draws := if r = .cmd then s.draws + 1 else s.draws }

/-- Takes the next input. A write of `CMD` is a command, selected by bits 7:0 (R100); an event word is an event (R93);
a write of `R0` or `R1` is ignored; with an empty inbox the block idles. -/
def fetch (s : State) : Fetched :=
  match s.inbox with
  | [] => .bus (whenReady s (.next s))
  | .event w :: rest => .instr (decodeEvent s.cfg w) { s with inbox := rest }
  | .write a v :: rest =>
    match portReg s.cfg a with
    | some .cmd => .instr (decodeCommand (byteOf v)) { s with inbox := rest }
    | some (.operand i) => .bus (whenReady s (.next (writeOperand i v { s with inbox := rest })))
    | some (.result _) => .bus (whenReady s (.next { s with inbox := rest }))
    | none => .bus (whenReady s (.refused (.outsideCommandPort a)))
  | .read a :: rest =>
    match portReg s.cfg a with
    | some r => .bus (whenReady s (.next (busRead r { s with inbox := rest })))
    | none => .bus (whenReady s (.refused (.outsideCommandPort a)))

/-- Presents an input before everything that waits. -/
def present (x : Input) (s : State) : State := { s with inbox := x :: s.inbox }

/-- The input that carries the instruction whose `nbits` bits are `w`: the write of `CMD`, or the event word
(log entry 20). -/
def tableInput (cfg : Config) (nbits w : Nat) : Input :=
  if nbits ≤ 8 then .write (portAddr cfg .cmd) (BitVec.ofNat 32 (w % 256)) else .event (BitVec.ofNat 16 w)

end Sys2Proof.Machine
end

