-- ==== Sys2Proof/Machine/Dispatch.lean ====
section
/-! DEFINITION. The dispatch of an instruction to its meaning, one arm per constructor of `Instr`. -/

namespace Sys2Proof.Machine

def exec (i : Instr) (s : State) : Host.Outcome State Fault Refusal :=
  match i with
  | .installInterrupts => Sys2Proof.Machine.execInstallInterrupts s
  | .installTimer => Sys2Proof.Machine.execInstallTimer s
  | .getTicks => Sys2Proof.Machine.execGetTicks s
  | .readCharacter => Sys2Proof.Machine.execReadCharacter s
  | .putCharacter => Sys2Proof.Machine.execPutCharacter s
  | .putString => Sys2Proof.Machine.execPutString s
  | .setColor => Sys2Proof.Machine.execSetColor s
  | .getColor => Sys2Proof.Machine.execGetColor s
  | .setCursor => Sys2Proof.Machine.execSetCursor s
  | .getCursor => Sys2Proof.Machine.execGetCursor s
  | .hideCursor => Sys2Proof.Machine.execHideCursor s
  | .showCursor => Sys2Proof.Machine.execShowCursor s
  | .clear => Sys2Proof.Machine.execClear s
  | .drawCharacter => Sys2Proof.Machine.execDrawCharacter s
  | .readCharacterAt => Sys2Proof.Machine.execReadCharacterAt s
  | .scroll => Sys2Proof.Machine.execScroll s
  | .reserved opcode => Sys2Proof.Machine.execReserved opcode s
  | .intTimer d => Sys2Proof.Machine.execIntTimer d s
  | .intKbd d => Sys2Proof.Machine.execIntKbd d s
  | .intOther v d => Sys2Proof.Machine.execIntOther v d s

end Sys2Proof.Machine
end

