-- ==== Sys2Proof/Machine/Step.lean ====
section
/-! DEFINITION. One step: the next input of the two agents is fetched, and an instruction is run to completion
(spec/00_scope.md R11). -/

namespace Sys2Proof.Machine

/-- One step of the machine. -/
def step (s : State) : Host.Outcome State Fault Refusal :=
  match fetch s with
  | .instr i s' => exec i s'
  | .bus r => r

/-- `s` with the instruction of the `nbits` bits `w` as the next input. -/
def State.withFetchWord (s : State) (nbits w : Nat) : State := present (tableInput s.cfg nbits w) s

end Sys2Proof.Machine
end

