-- ==== Sys2Proof/Machine/Ports.lean ====
section
/-! DEFINITION. The PORT space (spec/20_memory.md R66): the byte writes to device ports that stand behind an output
event (spec/10_state.md R40) and behind a new `HWCUR` (spec/43_console.md R189). Informative in the spec: no state
depends on them, so they are views of the outputs and not state (log entry 26). A port number is 16 bits wide here
(DESIGN CHOICE, log entry 30). -/

namespace Sys2Proof.Machine

/-- The byte writes, in order, of one output event. A diagnostic, a callback and a table load write no port. -/
def eventPortWrites (cfg : Config) : OutEvent → List (Half × Byte)
  | .ack _ => [(cfg.intCtlPort.setWidth 16, cfg.intAck)]
  | .timerProgram d =>
    [(cfg.timerModePort, cfg.timerMode), (cfg.timerPeriodPort, d.extractLsb' 0 8),
     (cfg.timerPeriodPort, d.extractLsb' 8 8)]
  | .diag _ => []
  | .callback _ _ => []
  | .idtLoad _ _ => []

/-- The four byte writes that carry `HWCUR` to the display (R189), high byte first (R62). -/
def cursorPortWrites (cfg : Config) (hw : Half) : List (Half × Byte) :=
  [(cfg.crtcIdxPort, cfg.crtcCurMsb), (cfg.crtcDataPort, hw.extractLsb' 8 8),
   (cfg.crtcIdxPort, cfg.crtcCurLsb), (cfg.crtcDataPort, hw.extractLsb' 0 8)]

end Sys2Proof.Machine
end

