-- ==== Sys2Proof/Safety.lean ====
section
/-! DEFINITION. What counts as a safe state, in the spec's own terms: the well-formed state predicate `WF`
(spec/10_state.md R47) and the invariants it is made of (R28, R32, R34, R38), the canonical form of the stores, the live
contents of the ring (R32), and what `OUT` records (spec/40_dispatch.md R128). -/

namespace Sys2Proof.Machine

/-- The ring invariants (R32). -/
abbrev RingInv (s : State) : Prop :=
  s.kcount ≤ s.cfg.kbufCap ∧ s.khead < s.cfg.kbufCap ∧ s.ktail < s.cfg.kbufCap
    ∧ s.khead = (s.ktail + s.kcount) % s.cfg.kbufCap

/-- The cursor bounds (R34). -/
abbrev CursorInv (s : State) : Prop := s.row < s.cfg.rows ∧ s.col < s.cfg.cols

/-- The hardware cursor equation (R38). -/
abbrev HwCursorInv (s : State) : Prop :=
  s.hwcur = BitVec.ofNat 16 (if s.hidden then hidePos s.cfg else linearPos s)

/-- Never installed (R47): no table loaded, delivery off, every gate zero. -/
abbrev NotInstalled (s : State) : Prop :=
  s.idtLoaded = false ∧ s.ie = false ∧ ∀ v < s.cfg.nvec, gateAt s v = 0

/-- The gate table invariant (R28). -/
abbrev GateInv (s : State) : Prop :=
  (∀ v < s.cfg.nvec, gatePresent (gateAt s v) = true ↔ v = s.cfg.vecTimer.toNat ∨ v = s.cfg.vecKbd.toNat)
    ∧ gateEntry (gateAt s s.cfg.vecTimer.toNat) = s.cfg.entryTimer
    ∧ gateEntry (gateAt s s.cfg.vecKbd.toNat) = s.cfg.entryKbd

/-- Installed (R47): the table is loaded and the gate invariant holds. -/
abbrev Installed (s : State) : Prop := s.idtLoaded = true ∧ GateInv s

/-- The well-formed state predicate `WF` (R47). -/
abbrev WF (s : State) : Prop :=
  s.fault = none ∧ RingInv s ∧ CursorInv s ∧ HwCursorInv s ∧ (NotInstalled s ∨ Installed s)

/-- Every store of the state is in its canonical form (log entry 19). -/
abbrev StoresWf (s : State) : Prop :=
  Memory.wf Config.gridDraw s.grid ∧ Memory.wf Config.kbufDraw s.kbuf ∧ Memory.wf Config.clientDraw s.client
    ∧ Store.wf gateDraw s.gates

/-- An event with vector `v` would be taken now (spec/60_exceptions.md R218, R221): delivery is enabled, a table is
loaded, and the gate is present. -/
abbrev Deliverable (s : State) (v : Byte) : Prop :=
  s.ie = true ∧ s.idtLoaded = true ∧ gatePresent (gateAt s v.toNat) = true

/-- The live contents of the ring, oldest first (R32, spec/42_keyboard.md R158). -/
def liveBytes (s : State) : List Byte :=
  (List.range s.kcount).map fun i => kbufRead s ((s.ktail + i) % s.cfg.kbufCap)

/-- How many acknowledges an output trace holds (spec/40_dispatch.md R128). -/
def ackCount (out : List OutEvent) : Nat :=
  out.countP fun e => match e with | .ack _ => true | _ => false

/-- A cell of the grid as the pair of its bytes. -/
def cell (s : State) (r c : Nat) : Byte × Byte := (cellCh s r c, cellAt s r c)

/-- A byte address inside the grid (spec/20_memory.md R65). -/
abbrev InGridSpace (cfg : Config) (a : Nat) : Prop := cfg.gridBase ≤ a ∧ a < cfg.gridBase + 2 * (cfg.rows * cfg.cols)

/-- The parts of the state the console owns (spec/10_state.md R46). -/
def consolePart (s : State) : Nat × Nat × Byte × Bool × Half × Memory :=
  (s.row, s.col, s.color, s.hidden, s.hwcur, s.grid)

/-- The parts of the state the keyboard owns. -/
def keyboardPart (s : State) : Memory × Nat × Nat × Nat × Bool :=
  (s.kbuf, s.khead, s.ktail, s.kcount, s.decAug)

/-- The parts of the state the timer owns. -/
def timerPart (s : State) : Nat × Word × Bool := (s.ticks, s.cb, s.timerArmed)

/-- The parts of the state the dispatcher owns. -/
def dispatcherPart (s : State) : Bool × Bool × Idtr × Store DWord := (s.ie, s.idtLoaded, s.idtr, s.gates)

/-- The operand registers. -/
def operandPart (s : State) : Word × Word × Word × Word := (s.a0, s.a1, s.a2, s.a3)

/-- What no step of the block changes but the taking of an input: the parameters and the client's memory. -/
def fixedPart (s : State) : Config × Memory := (s.cfg, s.client)

/-- The fields the spec does not name: the inbox, and what bus reads leave. -/
def modelPart (s : State) : List Input × Word × Nat := (s.inbox, s.busData, s.draws)

end Sys2Proof.Machine
end

