-- ==== Sys2Proof/Certificates/Slice0/Obligations.lean ====
section
/-! DEFINITION. The statements for the provers, from the numbered rules of spec/. Every statement about an instruction is
made for every configuration that satisfies spec/00_scope.md R6 and every state that takes steps (`ready`: no fault, a
well-formed configuration, every element in its type, legal gates; log entries 4, 10, 11, 12). -/

open Sys2Proof Sys2Proof.Machine

/-! ### Encoding and decoding -/

/-- Decoding what the encoder gives yields the instruction with every operand bit, and the bytes after it
(spec/30_encoding.md R93, R94, R95). That `d` is kept in `intTimer` and `intOther` is the model's choice, log entry 27. -/
def Obligations.DecodeInvertsEncode : Prop :=
  ∀ (cfg : Config) (i : Instr) (rest : List Byte), configOk cfg = true → wellFormed cfg i = true →
    decodeBytes cfg (carrierOf i) (encode cfg i ++ rest) = .ok (i, rest)

/-- What decodes is well formed, arrived on its own carrier, and encodes back to the bytes that were read
(spec/30_encoding.md R94, R95, R96, R103). That the bytes of INT_TIMER and INT_OTHER come back whole rests on keeping `d`
in them, the model's choice, log entry 27. -/
def Obligations.EncodeInvertsDecode : Prop :=
  ∀ (cfg : Config) (c : Carrier) (bs rest : List Byte) (i : Instr), decodeBytes cfg c bs = .ok (i, rest) →
    wellFormed cfg i = true ∧ carrierOf i = c ∧ encode cfg i ++ rest = bs

/-- One word of each family, as the spec's tables give it (spec/30_encoding.md R94, R95; spec/95_test_vectors.md 2.1). Two
things are the model's choice: the `d` kept in `intTimer` and `intOther`, log entry 27, and the carrier chosen by the
number of bits, log entry 20. -/
def Obligations.SpecWordsDecodeToTheirInstructions : Prop :=
  decodeTableWord 8 0b00000001 = some .installInterrupts ∧ decodeTableWord 8 0b00000010 = some .installTimer
    ∧ decodeTableWord 8 0b00010000 = some .readCharacter ∧ decodeTableWord 8 0b00101011 = some .scroll
    ∧ decodeTableWord 8 0b00101100 = some (.reserved 0x2C)
    ∧ decodeTableWord 16 0b1111111100100000 = some (.intTimer 0xFF)
    ∧ decodeTableWord 16 0b0001111000100001 = some (.intKbd 0x1E)
    ∧ decodeTableWord 16 0b1010101011111111 = some (.intOther 0xFF 0xAA)

/-- The reserved opcodes are exactly the 240 bytes R96 lists, and every other byte is a command (spec/30_encoding.md R96,
R103). -/
def Obligations.ReservedOpcodesAreThe240OfTheSpec : Prop :=
  (∀ b : Byte, decodeCommand b = .reserved b ↔ isReservedOpcode b = true)
    ∧ (List.range 256).countP (fun n => isReservedOpcode (BitVec.ofNat 8 n)) = 240

/-! ### The step -/

/-- A step runs the decoded instruction: an event word, or the low byte of a write of `CMD`, at the front of the inbox
is decoded and executed with the rest of the inbox left. The inbox is the model's own (log entry 2), a bus access that
is a step of its own too (log entry 24), and `withFetchWord` chooses the carrier by the number of bits (log entry 20). -/
def Obligations.StepRunsTheDecodedInstruction : Prop :=
  (∀ (s : State) (w : Half) (rest : List Input), s.inbox = .event w :: rest →
      step s = exec (decodeEvent s.cfg w) { s with inbox := rest })
    ∧ (∀ (s : State) (v : Word) (rest : List Input), s.inbox = .write s.cfg.cmdBase v :: rest →
      step s = exec (decodeCommand (v.extractLsb' 0 8)) { s with inbox := rest })
    ∧ (∀ (s : State) (n : Nat), n < 256 → step (s.withFetchWord 8 n) = exec (decodeCommand (BitVec.ofNat 8 n)) s)
    ∧ ∀ (s : State) (n : Nat), step (s.withFetchWord 16 n) = exec (decodeEvent s.cfg (BitVec.ofNat 16 n)) s

/-- The bus view of the command port, register by register (spec/30_encoding.md R100). The model's own choices: that each
bus access is a step of its own (log entry 24) taken from the front of the inbox (log entry 2), what a read leaves in
`busData` and `draws` (log entry 9), and that offsets from `CMD_BASE` wrap modulo 2^32 (log entry 29). The value a read of
`CMD` returns is a free value and the statement holds for every one. -/
def Obligations.CommandPortBusView : Prop :=
  ∀ (s : State) (v : Word) (rest : List Input), ready s = true →
    (s.inbox = .write s.cfg.cmdBase v :: rest →
        step s = exec (decodeCommand (v.extractLsb' 0 8)) { s with inbox := rest })
    ∧ (s.inbox = .write (s.cfg.cmdBase + 0x04) v :: rest → step s = .next { s with inbox := rest, a0 := v })
    ∧ (s.inbox = .write (s.cfg.cmdBase + 0x08) v :: rest → step s = .next { s with inbox := rest, a1 := v })
    ∧ (s.inbox = .write (s.cfg.cmdBase + 0x0C) v :: rest → step s = .next { s with inbox := rest, a2 := v })
    ∧ (s.inbox = .write (s.cfg.cmdBase + 0x10) v :: rest → step s = .next { s with inbox := rest, a3 := v })
    ∧ (s.inbox = .write (s.cfg.cmdBase + 0x14) v :: rest → step s = .next { s with inbox := rest })
    ∧ (s.inbox = .write (s.cfg.cmdBase + 0x18) v :: rest → step s = .next { s with inbox := rest })
    ∧ (s.inbox = .read s.cfg.cmdBase :: rest →
        ∃ w, step s = .next { s with inbox := rest, busData := w, draws := s.draws + 1 })
    ∧ (s.inbox = .read (s.cfg.cmdBase + 0x04) :: rest → step s = .next { s with inbox := rest, busData := s.a0 })
    ∧ (s.inbox = .read (s.cfg.cmdBase + 0x08) :: rest → step s = .next { s with inbox := rest, busData := s.a1 })
    ∧ (s.inbox = .read (s.cfg.cmdBase + 0x0C) :: rest → step s = .next { s with inbox := rest, busData := s.a2 })
    ∧ (s.inbox = .read (s.cfg.cmdBase + 0x10) :: rest → step s = .next { s with inbox := rest, busData := s.a3 })
    ∧ (s.inbox = .read (s.cfg.cmdBase + 0x14) :: rest → step s = .next { s with inbox := rest, busData := s.r0 })
    ∧ (s.inbox = .read (s.cfg.cmdBase + 0x18) :: rest → step s = .next { s with inbox := rest, busData := s.r1 })

/-- A state whose sticky fault is set takes no step of any kind (spec/10_state.md R43). How the host's outcome says so is
log entry 4. -/
def Obligations.FaultedStateTakesNoStep : Prop :=
  ∀ (s : State) (f : Fault), s.fault = some f → (∀ i : Instr, exec i s = .fault f) ∧ step s = .fault f

/-- The model faults and exactly when they are set (spec/60_exceptions.md R216, R221; spec/43_console.md R186). An event is
presented with the vector its constructor stands for. That a vector at or beyond `NVEC` reads as not present is DEDUCED,
log entry 14. -/
def Obligations.ModelFaultsAreSetExactlyWhenTheSpecSays : Prop :=
  ∀ (i : Instr) (s t : State), exec i s = .next t →
    (∀ v, t.fault = some (.gateNotPresent v) ↔
      ((∃ d, i = .intTimer d ∧ v = s.cfg.vecTimer) ∨ (∃ d, i = .intKbd d ∧ v = s.cfg.vecKbd) ∨ ∃ d, i = .intOther v d)
        ∧ s.ie = true ∧ (s.idtLoaded = false ∨ gatePresent (gateAt s v.toNat) = false))
    ∧ ∀ r c, t.fault = some (.uncheckedReadOutOfRange r c) ↔
      i = .readCharacterAt ∧ r = s.a0 ∧ c = s.a1
        ∧ ¬ (0 ≤ s.a0.toInt ∧ s.a0.toInt < s.cfg.rows ∧ 0 ≤ s.a1.toInt ∧ s.a1.toInt < s.cfg.cols)

/-! ### Dispatcher and timer commands -/

/-- INSTALL_INTERRUPTS (spec/40_dispatch.md R121): the whole table, the base register, the flags, the two output events,
and nothing else; in particular `TICKS`, `CB`, keyboard and console state stay. -/
def Obligations.InstallInterruptsProgramsTheTable : Prop :=
  ∀ s : State, ready s = true → ∃ t : State, exec .installInterrupts s = .next t
    ∧ t = { s with
        gates := t.gates, idtr := ⟨s.cfg.idtBase, BitVec.ofNat 16 (8 * s.cfg.nvec - 1)⟩, idtLoaded := true
        timerArmed := true, ie := true, r0 := 0
        out := s.out ++ [.idtLoad s.cfg.idtBase (BitVec.ofNat 16 (8 * s.cfg.nvec - 1)),
          .timerProgram s.cfg.timerDivisor] }
    ∧ ∀ v < s.cfg.nvec, gateAt t v =
        if v = s.cfg.vecTimer.toNat then makeGate s.cfg s.cfg.entryTimer
        else if v = s.cfg.vecKbd.toNat then makeGate s.cfg s.cfg.entryKbd else 0

/-- A second INSTALL_INTERRUPTS leaves the same table and flags and sends the same two events again
(spec/40_dispatch.md R121 corner case a, spec/70_reset_and_hazards.md R250). -/
def Obligations.ReinstallationKeepsTheTable : Prop :=
  ∀ s t : State, exec .installInterrupts s = .next t → ∃ u : State, exec .installInterrupts t = .next u
    ∧ u = { t with
        gates := u.gates
        out := t.out ++ [.idtLoad s.cfg.idtBase (BitVec.ofNat 16 (8 * s.cfg.nvec - 1)),
          .timerProgram s.cfg.timerDivisor] }
    ∧ ∀ v < s.cfg.nvec, gateAt u v = gateAt t v

/-- `MakeGate` packs its fields, each at its own bits (spec/40_dispatch.md R120). -/
def Obligations.MakeGatePacksItsFields : Prop :=
  ∀ (cfg : Config) (entry : Word),
    gateOffLo (makeGate cfg entry) = entry.extractLsb' 0 16 ∧ gateSel (makeGate cfg entry) = cfg.codeSel
      ∧ gateReserved (makeGate cfg entry) = 0
      ∧ gateType (makeGate cfg entry) = (if cfg.gateType = .interrupt then 0xE else 0xF)
      ∧ gateS (makeGate cfg entry) = false ∧ gateDpl (makeGate cfg entry) = cfg.gateDpl
      ∧ gatePresent (makeGate cfg entry) = true ∧ gateOffHi (makeGate cfg entry) = entry.extractLsb' 16 16

/-- The GATE space holds entry `v` in eight bytes at `IDT_BASE + 8 * v`, least significant byte first, and nothing
outside the table (spec/20_memory.md R76, R62). The model's own: that a table reaching past 2^32 does not wrap (log
entry 31). -/
def Obligations.GateEntriesLieLittleEndian : Prop :=
  ∀ s : State,
    (∀ v < s.cfg.nvec, ∀ k < 8,
      gateByte s (s.cfg.idtBase.toNat + 8 * v + k) = some ((gateAt s v).extractLsb' (8 * k) 8))
    ∧ ∀ a, a < s.cfg.idtBase.toNat ∨ s.cfg.idtBase.toNat + 8 * s.cfg.nvec ≤ a → gateByte s a = none

/-- INSTALL_TIMER (spec/41_timer.md R141): the timer programmed, the callback stored as its 32 bits, the counter zeroed,
nothing else; `IE` is not touched. -/
def Obligations.InstallTimerStoresTheCallback : Prop :=
  ∀ s : State, ready s = true → exec .installTimer s = .next { s with
    out := s.out ++ [.timerProgram s.cfg.timerDivisor], timerArmed := true, cb := s.a0, ticks := 0, r0 := 0 }

/-- GET_TICKS (spec/41_timer.md R143): the low 32 bits of the counter, nothing else. -/
def Obligations.GetTicksReturnsTheCounter : Prop :=
  ∀ s : State, ready s = true → exec .getTicks s = .next { s with r0 := BitVec.ofNat 32 (s.ticks % 2 ^ 32) }

/-- A run of timer events, one for each data byte. -/
def timerEvents : List Byte → State → Result
  | [], s => .next s
  | d :: ds, s =>
    match exec (.intTimer d) s with
    | .next t => timerEvents ds t
    | r => r

/-- Of `k` timer events after INSTALL_TIMER with a callback each counts one tick and reports it: the counter ends at `k`,
and the callbacks reported 1, 2, ..., `k`, each followed by its acknowledge (spec/41_timer.md R146, R142). -/
def Obligations.EveryTimerEventReportsItsTick : Prop :=
  ∀ (s t : State) (ds : List Byte), exec .installTimer s = .next t → s.a0 ≠ 0 → Deliverable t t.cfg.vecTimer →
    ds.length < 2 ^ t.cfg.tickWidth → ∃ u : State, timerEvents ds t = .next u
      ∧ u = { t with
          ticks := ds.length
          out := t.out ++ (List.range ds.length).flatMap fun i => [.callback s.a0 (i + 1), .ack t.cfg.vecTimer] }

/-- The two install commands in either order end in the same state but for the order of the output events
(spec/70_reset_and_hazards.md R255). -/
def Obligations.InstallCommandsCommuteUpToTheTrace : Prop :=
  ∀ s : State, ready s = true → ∃ t u t' u' : State,
    exec .installTimer s = .next t ∧ exec .installInterrupts t = .next u
    ∧ exec .installInterrupts s = .next t' ∧ exec .installTimer t' = .next u'
    ∧ u' = { u with out := u'.out }
    ∧ u.out = s.out ++ [.timerProgram s.cfg.timerDivisor,
        .idtLoad s.cfg.idtBase (BitVec.ofNat 16 (8 * s.cfg.nvec - 1)), .timerProgram s.cfg.timerDivisor]
    ∧ u'.out = s.out ++ [.idtLoad s.cfg.idtBase (BitVec.ofNat 16 (8 * s.cfg.nvec - 1)),
        .timerProgram s.cfg.timerDivisor, .timerProgram s.cfg.timerDivisor]

/-! ### Keyboard -/

/-- READ_CHARACTER (spec/42_keyboard.md R153, R154): on an empty ring only `R0 <- NONE`; otherwise exactly one byte is
consumed and fed to the decoder, and a character comes out only of a completed press that carries data. -/
def Obligations.ReadCharacterPollsOneByte : Prop :=
  ∀ s : State, ready s = true →
    (s.kcount = 0 → exec .readCharacter s = .next { s with r0 := BitVec.ofInt 32 (-1) })
    ∧ (0 < s.kcount → exec .readCharacter s = .next { s with
        ktail := (s.ktail + 1) % s.cfg.kbufCap
        kcount := s.kcount - 1
        decAug := decide (kbufRead s s.ktail = s.cfg.augPrefix)
        r0 :=
          if kbufRead s s.ktail = s.cfg.augPrefix then BitVec.ofInt 32 (-1)
          else if (kbufRead s s.ktail).getLsbD 7 = true then BitVec.ofInt 32 (-1)
          else match s.cfg.keymap.lookup
              ((if s.decAug then 128 else 0) + ((kbufRead s s.ktail).extractLsb' 0 7).toNat) with
            | some k => k.setWidth 32
            | none => BitVec.ofInt 32 (-1) })

/-- "None" on an empty ring, and on a ring that holds only the prefix byte; the partial sequence is kept over further
empty polls (spec/42_keyboard.md R160). -/
def Obligations.PartialSequenceReadsAsNone : Prop :=
  ∀ s : State, ready s = true →
    (s.kcount = 0 → exec .readCharacter s = .next { s with r0 := BitVec.ofInt 32 (-1) })
    ∧ (s.kcount = 1 → kbufRead s s.ktail = s.cfg.augPrefix → ∃ t u : State,
        exec .readCharacter s = .next t ∧ t.r0 = BitVec.ofInt 32 (-1) ∧ t.decAug = true ∧ t.kcount = 0
        ∧ exec .readCharacter t = .next u ∧ u.r0 = BitVec.ofInt 32 (-1) ∧ u = t)

/-- The FIFO property of the ring at the level of its two operations (spec/42_keyboard.md R158), for every ring that
satisfies the invariants of spec/10_state.md R32. -/
def Obligations.RingIsFirstInFirstOut : Prop :=
  ∀ (s : State) (b : Byte), RingInv s →
    (s.kcount < s.cfg.kbufCap → liveBytes (kbdPush b s) = liveBytes s ++ [b])
    ∧ (s.kcount = s.cfg.kbufCap → kbdPush b s = s)
    ∧ (∀ x rest, liveBytes s = x :: rest → (kbdPop s).1 = some x ∧ liveBytes (kbdPop s).2 = rest)
    ∧ (liveBytes s = [] → kbdPop s = (none, s))

/-- What `n` pops in a row return. -/
def popTimes : Nat → State → List (Option Byte)
  | 0, _ => []
  | n + 1, s => (kbdPop s).1 :: popTimes n (kbdPop s).2

/-- The ring drops the newest byte and drains in order: of `KBUF_CAP + 1` bytes pushed into an empty ring, the last is
lost, the count stays at the capacity, as many pops return the others in order, and one more finds it empty (spec/95_test_vectors.md E6;
spec/42_keyboard.md R150, R152, R158). -/
def Obligations.FullRingDropsTheNewestAndDrainsInOrder : Prop :=
  ∀ (s : State) (bs : List Byte) (b : Byte), RingInv s → s.kcount = 0 → bs.length = s.cfg.kbufCap →
    let full := (bs ++ [b]).foldl (fun t x => kbdPush x t) s
    full.kcount = s.cfg.kbufCap ∧ liveBytes full = bs ∧ popTimes (s.cfg.kbufCap + 1) full = bs.map some ++ [none]

/-! ### Console output -/

/-- The hardware cursor value of a cursor position (spec/43_console.md R173), spelt out. -/
def hwAt (s : State) (r c : Nat) : Half :=
  BitVec.ofNat 16 (if s.hidden then s.cfg.rows * s.cfg.cols else r * s.cfg.cols + c)

/-- PUT_CHARACTER of `'\n'` (spec/43_console.md R172): column 0 of the next row; on the last row one scroll, row 0 lost,
the last row blank in the current colour, the cursor at its start. -/
def Obligations.NewlineAdvancesOrScrollsOnce : Prop :=
  ∀ s : State, ready s = true → s.a0.extractLsb' 0 8 = 0x0A →
    (s.row + 1 < s.cfg.rows → exec .putCharacter s = .next { s with
        row := s.row + 1, col := 0, hwcur := hwAt s (s.row + 1) 0, r0 := 0x0A })
    ∧ (s.row + 1 = s.cfg.rows → ∃ t : State, exec .putCharacter s = .next t
        ∧ t = { s with col := 0, hwcur := hwAt s s.row 0, r0 := 0x0A, grid := t.grid }
        ∧ (∀ r < s.cfg.rows, ∀ c < s.cfg.cols,
            cell t r c = if r + 1 < s.cfg.rows then cell s (r + 1) c else (s.cfg.blank, s.color))
        ∧ ∀ a, ¬ InGridSpace s.cfg a → gridRead t a = gridRead s a)

/-- PUT_CHARACTER of `'\r'` (spec/43_console.md R174): column 0 of the same row, the grid as it was. -/
def Obligations.CarriageReturnGoesToColumnZero : Prop :=
  ∀ s : State, ready s = true → s.a0.extractLsb' 0 8 = 0x0D →
    exec .putCharacter s = .next { s with col := 0, hwcur := hwAt s s.row 0, r0 := 0x0D }

/-- PUT_CHARACTER of `'\b'` (spec/43_console.md R174): one cell back in linear order, clamped at cell (0, 0), and that
cell blank in the current colour; no other byte of the grid changes. -/
def Obligations.BackspaceBlanksThePrecedingCell : Prop :=
  ∀ s : State, ready s = true → s.a0.extractLsb' 0 8 = 0x08 →
    let p := s.row * s.cfg.cols + s.col - 1
    ∃ t : State, exec .putCharacter s = .next t
      ∧ t = { s with
          row := p / s.cfg.cols, col := p % s.cfg.cols, hwcur := hwAt s (p / s.cfg.cols) (p % s.cfg.cols)
          r0 := 0x08, grid := t.grid }
      ∧ cell t (p / s.cfg.cols) (p % s.cfg.cols) = (s.cfg.blank, s.color)
      ∧ ∀ a, a ≠ cellAddr s.cfg (p / s.cfg.cols) (p % s.cfg.cols) →
          a ≠ cellAddr s.cfg (p / s.cfg.cols) (p % s.cfg.cols) + 1 → gridRead t a = gridRead s a

/-- PUT_CHARACTER of any other byte that does not wrap off the last row (spec/43_console.md R174): the byte and the
current colour in the cell at the cursor, no other byte of the grid changed, the cursor one cell on. -/
def Obligations.PrintingByteFillsTheCursorCell : Prop :=
  ∀ s : State, ready s = true → s.a0.extractLsb' 0 8 ∉ [0x0A, 0x0D, 0x08] →
    s.col + 1 < s.cfg.cols ∨ s.row + 1 < s.cfg.rows →
    let r' := if s.col + 1 < s.cfg.cols then s.row else s.row + 1
    let c' := if s.col + 1 < s.cfg.cols then s.col + 1 else 0
    ∃ t : State, exec .putCharacter s = .next t
      ∧ t = { s with
          row := r', col := c', hwcur := hwAt s r' c', r0 := (s.a0.extractLsb' 0 8).setWidth 32, grid := t.grid }
      ∧ cell t s.row s.col = (s.a0.extractLsb' 0 8, s.color)
      ∧ ∀ a, a ≠ cellAddr s.cfg s.row s.col → a ≠ cellAddr s.cfg s.row s.col + 1 → gridRead t a = gridRead s a

/-- PUT_CHARACTER of any other byte at the last cell (spec/43_console.md R174, R175 corner case a): written there, then
one scroll, so that it ends one row up, and the cursor at the start of the blank last row. -/
def Obligations.PrintingAtTheLastCellScrolls : Prop :=
  ∀ s : State, ready s = true → s.a0.extractLsb' 0 8 ∉ [0x0A, 0x0D, 0x08] →
    s.col + 1 = s.cfg.cols → s.row + 1 = s.cfg.rows →
    ∃ t : State, exec .putCharacter s = .next t
      ∧ t = { s with
          col := 0, hwcur := hwAt s s.row 0, r0 := (s.a0.extractLsb' 0 8).setWidth 32, grid := t.grid }
      ∧ (∀ r < s.cfg.rows, ∀ c < s.cfg.cols, cell t r c =
          if r + 1 = s.row ∧ c = s.col then (s.a0.extractLsb' 0 8, s.color)
          else if r + 1 < s.cfg.rows then cell s (r + 1) c else (s.cfg.blank, s.color))
      ∧ ∀ a, ¬ InGridSpace s.cfg a → gridRead t a = gridRead s a

/-- PUT_STRING (spec/43_console.md R176): a null reference or a length that is not positive changes `R0` only; a string
of n + 1 bytes is its first n bytes followed by PUT_CHARACTER of the last one, which lies at `(s + n) mod 2^32`. -/
def Obligations.PutStringIsPutCharacterOfEachByte : Prop :=
  ∀ s : State, ready s = true →
    (s.a0 = 0 ∨ s.a1.toInt ≤ 0 → exec .putString s = .next { s with r0 := 0 })
    ∧ ∀ n : Nat, s.a0 ≠ 0 → s.a1.toInt = n + 1 → ∃ t u : State,
        exec .putString { s with a1 := BitVec.ofNat 32 n } = .next t
        ∧ exec .putCharacter { t with a0 := (clientRead s (s.a0 + BitVec.ofNat 32 n)).setWidth 32 } = .next u
        ∧ exec .putString s = .next { u with a0 := s.a0, a1 := s.a1, r0 := 0 }

/-- A string of ordinary bytes that fits in the rest of the row lands cell by cell in the current colour, exactly its
length, a NUL included (spec/43_console.md R176, R174 e; spec/95_test_vectors.md E4). -/
def Obligations.PutStringFillsTheRowInOrder : Prop :=
  ∀ (s : State) (n : Nat), ready s = true → s.a0 ≠ 0 → s.a1.toInt = n → 0 < n → s.col + n < s.cfg.cols →
    (∀ i < n, clientRead s (s.a0 + BitVec.ofNat 32 i) ∉ [0x0A, 0x0D, 0x08]) →
    ∃ t : State, exec .putString s = .next t
      ∧ t = { s with col := s.col + n, hwcur := hwAt s s.row (s.col + n), r0 := 0, grid := t.grid }
      ∧ (∀ r < s.cfg.rows, ∀ c < s.cfg.cols, cell t r c =
          if r = s.row ∧ s.col ≤ c ∧ c < s.col + n then
            (clientRead s (s.a0 + BitVec.ofNat 32 (c - s.col)), s.color)
          else cell s r c)
      ∧ ∀ a, ¬ InGridSpace s.cfg a → gridRead t a = gridRead s a

/-! ### Colour and cursor commands -/

/-- SET_COLOR (spec/43_console.md R177) and GET_COLOR (R178); after a successful SET_COLOR exactly the code set
(spec/95_test_vectors.md E3). -/
def Obligations.SetColorChecksAndGetColorReflects : Prop :=
  ∀ s : State, ready s = true →
    (0 ≤ s.a0.toInt → s.a0.toInt < 256 →
      exec .setColor s = .next { s with color := s.a0.extractLsb' 0 8, r0 := 0 })
    ∧ (s.a0.toInt < 0 ∨ 256 ≤ s.a0.toInt → exec .setColor s = .next { s with r0 := BitVec.ofInt 32 (-1) })
    ∧ exec .getColor s = .next { s with r0 := s.color.setWidth 32 }
    ∧ (0 ≤ s.a0.toInt → s.a0.toInt < 256 → ∃ t u : State,
        exec .setColor s = .next t ∧ exec .getColor t = .next u ∧ u.r0 = s.a0)

/-- SET_CURSOR (spec/43_console.md R179): both coordinates checked, no partial mutation, the hardware cursor follows. -/
def Obligations.SetCursorValidatesBothCoordinates : Prop :=
  ∀ s : State, ready s = true →
    (∀ r c : Nat, s.a0.toInt = r → s.a1.toInt = c → r < s.cfg.rows → c < s.cfg.cols →
      exec .setCursor s = .next { s with row := r, col := c, hwcur := hwAt s r c, r0 := 0 })
    ∧ (s.a0.toInt < 0 ∨ s.cfg.rows ≤ s.a0.toInt ∨ s.a1.toInt < 0 ∨ s.cfg.cols ≤ s.a1.toInt →
      exec .setCursor s = .next { s with r0 := BitVec.ofInt 32 (-1) })

/-- GET_CURSOR (spec/43_console.md R180): it returns the cursor, and after a successful SET_CURSOR exactly the
coordinates set. -/
def Obligations.GetCursorReturnsWhatWasSet : Prop :=
  ∀ s : State, ready s = true →
    exec .getCursor s = .next { s with r0 := BitVec.ofNat 32 s.row, r1 := BitVec.ofNat 32 s.col }
    ∧ (0 ≤ s.a0.toInt → s.a0.toInt < s.cfg.rows → 0 ≤ s.a1.toInt → s.a1.toInt < s.cfg.cols → ∃ t u : State,
        exec .setCursor s = .next t ∧ exec .getCursor t = .next u ∧ u.r0 = s.a0 ∧ u.r1 = s.a1)

/-- HIDE_CURSOR (spec/43_console.md R181) and SHOW_CURSOR (R182). -/
def Obligations.HideAndShowSetTheHardwareCursor : Prop :=
  ∀ s : State, ready s = true →
    exec .hideCursor s = .next { s with
      hidden := true, hwcur := BitVec.ofNat 16 (s.cfg.rows * s.cfg.cols), r0 := 0 }
    ∧ exec .showCursor s = .next { s with
      hidden := false, hwcur := BitVec.ofNat 16 (s.row * s.cfg.cols + s.col), r0 := 0 }

/-- What the display renders in a state whose hardware cursor is consistent (spec/10_state.md R37, R38): no cursor while
hidden, else the logical cursor's cell. -/
def Obligations.HardwareCursorRendersTheLogicalCursor : Prop :=
  ∀ s : State, configOk s.cfg = true → CursorInv s → HwCursorInv s →
    renderedCursor s = if s.hidden then none else some (s.row, s.col)

/-! ### Grid commands -/

/-- SCROLL (spec/43_console.md R183, R171): the ascending copy equals the simultaneous one; nothing but the grid and `R0`
changes. -/
def Obligations.ScrollShiftsRowsUp : Prop :=
  ∀ s : State, ready s = true → ∃ t : State, exec .scroll s = .next t
    ∧ t = { s with r0 := 0, grid := t.grid }
    ∧ (∀ r < s.cfg.rows, ∀ c < s.cfg.cols,
        cell t r c = if r + 1 < s.cfg.rows then cell s (r + 1) c else (s.cfg.blank, s.color))
    ∧ ∀ a, ¬ InGridSpace s.cfg a → gridRead t a = gridRead s a

/-- CLEAR (spec/43_console.md R184). -/
def Obligations.ClearBlanksEveryCell : Prop :=
  ∀ s : State, ready s = true → ∃ t : State, exec .clear s = .next t
    ∧ t = { s with row := 0, col := 0, hwcur := hwAt s 0 0, r0 := 0, grid := t.grid }
    ∧ (∀ r < s.cfg.rows, ∀ c < s.cfg.cols, cell t r c = (s.cfg.blank, s.color))
    ∧ ∀ a, ¬ InGridSpace s.cfg a → gridRead t a = gridRead s a

/-- DRAW_CHARACTER (spec/43_console.md R185): with every argument valid one cell is written and nothing else; with any
invalid only `R0` changes. Whether `ch` is an argument that can be invalid is the configuration's. -/
def Obligations.DrawCharacterWritesOneCheckedCell : Prop :=
  ∀ s : State, ready s = true →
    (∀ r c : Nat, s.a0.toInt = r → s.a1.toInt = c → r < s.cfg.rows → c < s.cfg.cols →
      0 ≤ s.a3.toInt → s.a3.toInt < 256 →
      (s.cfg.drawChCheck = .truncate ∨ 0 ≤ s.a2.toInt ∧ s.a2.toInt < 256) →
      ∃ t : State, exec .drawCharacter s = .next t ∧ t = { s with r0 := 0, grid := t.grid }
        ∧ cell t r c = (s.a2.extractLsb' 0 8, s.a3.extractLsb' 0 8)
        ∧ ∀ a, a ≠ cellAddr s.cfg r c → a ≠ cellAddr s.cfg r c + 1 → gridRead t a = gridRead s a)
    ∧ (s.a0.toInt < 0 ∨ s.cfg.rows ≤ s.a0.toInt ∨ s.a1.toInt < 0 ∨ s.cfg.cols ≤ s.a1.toInt
        ∨ s.a3.toInt < 0 ∨ 256 ≤ s.a3.toInt
        ∨ s.cfg.drawChCheck = .check ∧ (s.a2.toInt < 0 ∨ 256 ≤ s.a2.toInt) →
      exec .drawCharacter s = .next { s with r0 := BitVec.ofInt 32 (-1) })

/-- READ_CHARACTER_AT (spec/43_console.md R186): the character byte of the cell; outside the grid the model fault, `R0`
not written. -/
def Obligations.ReadCharacterAtReadsOrFaults : Prop :=
  ∀ s : State, ready s = true →
    (∀ r c : Nat, s.a0.toInt = r → s.a1.toInt = c → r < s.cfg.rows → c < s.cfg.cols →
      exec .readCharacterAt s = .next { s with r0 := (gridRead s (cellAddr s.cfg r c)).setWidth 32 })
    ∧ (s.a0.toInt < 0 ∨ s.cfg.rows ≤ s.a0.toInt ∨ s.a1.toInt < 0 ∨ s.cfg.cols ≤ s.a1.toInt →
      exec .readCharacterAt s = .next { s with fault := some (.uncheckedReadOutOfRange s.a0 s.a1) })

/-- A reserved opcode (spec/30_encoding.md R96) sets `R0` to `ERR_INVAL` and changes nothing else: as the instruction,
and as the write of its byte to `CMD`. -/
def Obligations.ReservedOpcodeReturnsErrInval : Prop :=
  ∀ (s : State) (b : Byte), ready s = true → isReservedOpcode b = true →
    exec (.reserved b) s = .next { s with r0 := BitVec.ofInt 32 (-1) }
    ∧ step (s.withFetchWord 8 b.toNat) = .next { s with r0 := BitVec.ofInt 32 (-1) }

/-! ### Events -/

/-- INT_TIMER (spec/40_dispatch.md R124): one tick modulo `2^TICK_WIDTH`, the callback with the new count if there is one,
then the acknowledge, nothing else; through a missing table or a gate that is not present the model fault. -/
def Obligations.TimerEventCountsAndAcknowledges : Prop :=
  ∀ (s : State) (d : Byte), ready s = true →
    (Deliverable s s.cfg.vecTimer → exec (.intTimer d) s = .next { s with
        ticks := (s.ticks + 1) % 2 ^ s.cfg.tickWidth
        out := s.out ++ (if s.cb = 0 then [] else [.callback s.cb ((s.ticks + 1) % 2 ^ s.cfg.tickWidth)])
          ++ [.ack s.cfg.vecTimer] })
    ∧ (s.ie = true → s.idtLoaded = false ∨ gatePresent (gateAt s s.cfg.vecTimer.toNat) = false →
        exec (.intTimer d) s = .next { s with fault := some (.gateNotPresent s.cfg.vecTimer) })

/-- INT_KBD (spec/40_dispatch.md R125): the byte goes into the slot at the head, or is lost when the ring is full; the
acknowledge is written in both cases, nothing else changes; through a missing table or a gate that is not present the
model fault. -/
def Obligations.KeyboardEventPushesOrDrops : Prop :=
  ∀ (s : State) (d : Byte), ready s = true →
    (Deliverable s s.cfg.vecKbd → s.kcount < s.cfg.kbufCap → ∃ t : State, exec (.intKbd d) s = .next t
        ∧ t = { s with
            kbuf := t.kbuf, khead := (s.khead + 1) % s.cfg.kbufCap, kcount := s.kcount + 1
            out := s.out ++ [.ack s.cfg.vecKbd] }
        ∧ ∀ j, kbufRead t j = if j = s.khead then d else kbufRead s j)
    ∧ (Deliverable s s.cfg.vecKbd → s.kcount = s.cfg.kbufCap →
        exec (.intKbd d) s = .next { s with out := s.out ++ [.ack s.cfg.vecKbd] })
    ∧ (s.ie = true → s.idtLoaded = false ∨ gatePresent (gateAt s s.cfg.vecKbd.toNat) = false →
        exec (.intKbd d) s = .next { s with fault := some (.gateNotPresent s.cfg.vecKbd) })

/-- INT_OTHER (spec/40_dispatch.md R126): through a present gate of a misconfigured table the diagnostic and nothing
else, no acknowledge; through a missing table or a gate that is not present the model fault. -/
def Obligations.UnknownVectorIsDiagnosed : Prop :=
  ∀ (s : State) (v d : Byte), ready s = true → isOtherVector s.cfg v = true →
    (Deliverable s v → exec (.intOther v d) s = .next { s with out := s.out ++ [.diag v] })
    ∧ (s.ie = true → s.idtLoaded = false ∨ gatePresent (gateAt s v.toNat) = false →
        exec (.intOther v d) s = .next { s with fault := some (.gateNotPresent v) })

/-- In an installed state every other vector faults at entry (spec/40_dispatch.md R126, reachability;
spec/10_state.md R28). A vector beyond the table reads as not present, log entry 14. -/
def Obligations.InstalledTableFaultsOnOtherVectors : Prop :=
  ∀ (s : State) (v d : Byte), ready s = true → Installed s → s.ie = true → isOtherVector s.cfg v = true →
    exec (.intOther v d) s = .next { s with fault := some (.gateNotPresent v) }

/-- With `IE = 0` no event is taken: no effect of any kind (spec/60_exceptions.md R218). -/
def Obligations.DisabledEventsHaveNoEffect : Prop :=
  ∀ (s : State) (v d : Byte), ready s = true → s.ie = false →
    exec (.intTimer d) s = .next s ∧ exec (.intKbd d) s = .next s ∧ exec (.intOther v d) s = .next s

/-- Exactly one acknowledge per serviced event, and it is that step's last output; none from any other instruction
(spec/40_dispatch.md R128, R123). -/
def Obligations.OneAcknowledgePerServicedEvent : Prop :=
  ∀ (i : Instr) (s t : State), wellFormed s.cfg i = true → exec i s = .next t →
    (∀ d, i = .intTimer d → Deliverable s s.cfg.vecTimer →
        ackCount t.out = ackCount s.out + 1 ∧ t.out.getLast? = some (.ack s.cfg.vecTimer))
    ∧ (∀ d, i = .intKbd d → Deliverable s s.cfg.vecKbd →
        ackCount t.out = ackCount s.out + 1 ∧ t.out.getLast? = some (.ack s.cfg.vecKbd))
    ∧ (¬ (∃ d, i = .intTimer d ∧ Deliverable s s.cfg.vecTimer) → ¬ (∃ d, i = .intKbd d ∧ Deliverable s s.cfg.vecKbd) →
        ackCount t.out = ackCount s.out)

/-! ### Reset -/

/-- What reset leaves where the spec gives a value, in every configuration (spec/10_state.md R44). The registers and
bytes R44 leaves unspecified are not stated. -/
def Obligations.ResetLeavesTheSpecsValues : Prop :=
  ∀ cfg : Config, let s := State.resetWith cfg
    s.cfg = cfg ∧ s.ie = false ∧ s.idtLoaded = false ∧ s.idtr = ⟨0, 0⟩ ∧ (∀ v, gateAt s v = 0) ∧ s.ticks = 0 ∧ s.cb = 0
      ∧ s.timerArmed = false ∧ s.khead = 0 ∧ s.ktail = 0 ∧ s.kcount = 0 ∧ s.decAug = false ∧ s.row = 0 ∧ s.col = 0
      ∧ s.color = cfg.defaultColor ∧ s.hidden = false ∧ s.hwcur = 0 ∧ s.out = [] ∧ s.fault = none

/-- The reset state is well formed (spec/10_state.md R47), takes steps, and has its stores in canonical form. The canonical
form is the model's choice, log entry 19, and so are the OPEN parameters of `State.reset`, log entry 1. -/
def Obligations.ResetIsWellFormed : Prop :=
  (∀ cfg : Config, configOk cfg = true →
      WF (State.resetWith cfg) ∧ ready (State.resetWith cfg) = true ∧ StoresWf (State.resetWith cfg))
    ∧ configOk refConfig = true ∧ State.reset = State.resetWith refConfig

/-! ### Invariants of every step -/

/-- Every step keeps the well-formed state predicate of spec/10_state.md R47, but for the steps that set the model
fault. -/
def Obligations.EveryStepKeepsWellFormedness : Prop :=
  ∀ s t : State, WF s → step s = .next t → WF t ∨ t.fault ≠ none

/-- Every step leaves a state that takes steps, or one with the model fault set: no run from a ready state is ever
refused for its own state (spec/10_state.md R20, R43, R47; the refusals are log entries 10, 11, 12). -/
def Obligations.EveryStepKeepsReadiness : Prop :=
  ∀ s t : State, step s = .next t → ready t = true ∨ t.fault ≠ none

/-- Every step keeps every store in its canonical form (log entry 19). -/
def Obligations.EveryStepKeepsStoresCanonical : Prop :=
  ∀ s t : State, StoresWf s → step s = .next t → StoresWf t

/-- Memories in canonical form with the same reads are the same data. -/
def Obligations.CanonicalMemoriesWithEqualReadsAreEqual : Prop :=
  ∀ (dflt : Nat → Byte) (m m' : Memory), Memory.wf dflt m → Memory.wf dflt m' →
    (∀ a, Store.read dflt m a = Store.read dflt m' a) → m = m'

/-- No step changes the parameters or the client's memory (spec/10_state.md R45, spec/20_memory.md R67). -/
def Obligations.NoStepChangesParametersOrClientMemory : Prop :=
  ∀ s t : State, step s = .next t → t.cfg = s.cfg ∧ t.client = s.client

/-- No command and no event writes the operand registers; `R1` is written by GET_CURSOR only; events write neither result
register (spec/10_state.md R21, R22). -/
def Obligations.RegistersChangeOnlyByTheirOwners : Prop :=
  ∀ (i : Instr) (s t : State), exec i s = .next t →
    (t.a0 = s.a0 ∧ t.a1 = s.a1 ∧ t.a2 = s.a2 ∧ t.a3 = s.a3)
    ∧ (i ≠ .getCursor → t.r1 = s.r1) ∧ (carrierOf i = .event → t.r0 = s.r0)

/-- The tick counter changes by INT_TIMER and INSTALL_TIMER only, the callback by INSTALL_TIMER only
(spec/41_timer.md R146, spec/10_state.md R30). -/
def Obligations.TickCounterChangesOnlyByTheTimer : Prop :=
  ∀ (i : Instr) (s t : State), wellFormed s.cfg i = true → exec i s = .next t → i ≠ .installTimer →
    t.cb = s.cb ∧ ((∀ d, i ≠ .intTimer d) → t.ticks = s.ticks)

/-- Only INT_KBD writes the ring's bytes and head, only READ_CHARACTER its tail and the decoder flag, and nothing else
its count (spec/42_keyboard.md R159). -/
def Obligations.RingIsOwnedByProducerAndConsumer : Prop :=
  ∀ (i : Instr) (s t : State), wellFormed s.cfg i = true → exec i s = .next t →
    ((∀ d, i ≠ .intKbd d) → t.kbuf = s.kbuf ∧ t.khead = s.khead)
    ∧ (i ≠ .readCharacter → t.ktail = s.ktail ∧ t.decAug = s.decAug)
    ∧ ((∀ d, i ≠ .intKbd d) → i ≠ .readCharacter → t.kcount = s.kcount)

/-- The twelve commands of the console (spec/43_console.md). -/
def isConsoleCommand (i : Instr) : Bool :=
  i ∈ [.putCharacter, .putString, .setColor, .getColor, .setCursor, .getCursor, .hideCursor, .showCursor, .clear,
    .drawCharacter, .readCharacterAt, .scroll]

/-- Only console commands touch the console, and they touch nothing of the dispatcher, the timer, the keyboard or the
output trace (spec/43_console.md R187, spec/10_state.md R46). -/
def Obligations.ConsoleIsTouchedByConsoleCommandsOnly : Prop :=
  ∀ (i : Instr) (s t : State), exec i s = .next t →
    (isConsoleCommand i = false → consolePart t = consolePart s)
    ∧ (isConsoleCommand i = true → dispatcherPart t = dispatcherPart s ∧ timerPart t = timerPart s
        ∧ keyboardPart t = keyboardPart s ∧ t.out = s.out)

/-- The output trace is append-only: what was sent stays, in its order (spec/10_state.md R40). -/
def Obligations.OutputTraceOnlyGrows : Prop :=
  ∀ s t : State, step s = .next t → ∃ es, t.out = s.out ++ es

/-- No step clears `IE`, `IDT_LOADED` or `TIMER_ARMED`; of all instructions only INSTALL_INTERRUPTS changes `IE` and
`IDT_LOADED`, only the two install commands `TIMER_ARMED`, and only HIDE_CURSOR and SHOW_CURSOR the hidden flag
(spec/60_exceptions.md R218, R222; spec/10_state.md R25, R36). -/
def Obligations.FlagsChangeOnlyByTheirSetters : Prop :=
  (∀ s t : State, step s = .next t →
      (s.ie = true → t.ie = true) ∧ (s.idtLoaded = true → t.idtLoaded = true)
        ∧ (s.timerArmed = true → t.timerArmed = true))
    ∧ ∀ (i : Instr) (s t : State), exec i s = .next t →
      (i ≠ .installInterrupts → t.ie = s.ie ∧ t.idtLoaded = s.idtLoaded)
        ∧ (i ≠ .installInterrupts → i ≠ .installTimer → t.timerArmed = s.timerArmed)
        ∧ (i ≠ .hideCursor → i ≠ .showCursor → t.hidden = s.hidden)

/-- Only INSTALL_INTERRUPTS writes the gate table and the base register (spec/10_state.md R26). -/
def Obligations.GateTableChangesOnlyByInstallation : Prop :=
  ∀ (i : Instr) (s t : State), exec i s = .next t → i ≠ .installInterrupts → t.gates = s.gates ∧ t.idtr = s.idtr

/-- No step writes a GRID byte outside the grid, and the cursor stays inside it (spec/43_console.md R188). -/
def Obligations.NoStepWritesOutsideTheGrid : Prop :=
  ∀ s t : State, step s = .next t →
    (∀ a, ¬ InGridSpace s.cfg a → gridRead t a = gridRead s a) ∧ CursorInv t

/-! ### The two sides do not disturb each other -/

/-- A console command and a delivered timer or keyboard event end in the same state in either order
(spec/43_console.md R187, spec/00_scope.md R11; spec/95_test_vectors.md P4). -/
def Obligations.ConsoleCommandsCommuteWithEvents : Prop :=
  ∀ (i e : Instr) (s t u : State), isConsoleCommand i = true →
    ((∃ d, e = .intTimer d) ∧ Deliverable s s.cfg.vecTimer ∨ (∃ d, e = .intKbd d) ∧ Deliverable s s.cfg.vecKbd) →
    exec i s = .next t → exec e t = .next u →
    ∃ t' : State, exec e s = .next t' ∧ exec i t' = .next u

/-- The port-level byte writes behind the outputs (spec/20_memory.md R66, spec/43_console.md R189): one acknowledge byte,
the timer's mode byte and its divisor low byte first, the hardware cursor high byte first. The model's own: that they are
functions of the outputs (log entry 26) and that a port number has 16 bits (log entry 30). -/
def Obligations.PortSequencesOfTheOutputs : Prop :=
  ∀ (cfg : Config) (v : Byte) (d hw : Half),
    eventPortWrites cfg (.ack v) = [(cfg.intCtlPort.setWidth 16, cfg.intAck)]
    ∧ eventPortWrites cfg (.timerProgram d) =
        [(cfg.timerModePort, cfg.timerMode), (cfg.timerPeriodPort, BitVec.ofNat 8 d.toNat),
         (cfg.timerPeriodPort, BitVec.ofNat 8 (d.toNat / 256))]
    ∧ cursorPortWrites cfg hw =
        [(cfg.crtcIdxPort, cfg.crtcCurMsb), (cfg.crtcDataPort, BitVec.ofNat 8 (hw.toNat / 256)),
         (cfg.crtcIdxPort, cfg.crtcCurLsb), (cfg.crtcDataPort, BitVec.ofNat 8 hw.toNat)]
end

