-- ==== Sys2Proof/Laws/State.lean ====
section
/-! SUPPORT. One lemma per field per update of `State`, each true by unfolding the update, so that no later proof
unfolds a record update. -/

namespace Sys2Proof.Machine

variable (s : State)

/-! ### `setR0` -/

@[simp] theorem setR0_cfg (v : Word) : (setR0 v s).cfg = s.cfg := rfl
@[simp] theorem setR0_client (v : Word) : (setR0 v s).client = s.client := rfl
@[simp] theorem setR0_inbox (v : Word) : (setR0 v s).inbox = s.inbox := rfl
@[simp] theorem setR0_busData (v : Word) : (setR0 v s).busData = s.busData := rfl
@[simp] theorem setR0_draws (v : Word) : (setR0 v s).draws = s.draws := rfl
@[simp] theorem setR0_a0 (v : Word) : (setR0 v s).a0 = s.a0 := rfl
@[simp] theorem setR0_a1 (v : Word) : (setR0 v s).a1 = s.a1 := rfl
@[simp] theorem setR0_a2 (v : Word) : (setR0 v s).a2 = s.a2 := rfl
@[simp] theorem setR0_a3 (v : Word) : (setR0 v s).a3 = s.a3 := rfl
@[simp] theorem setR0_r0 (v : Word) : (setR0 v s).r0 = v := rfl
@[simp] theorem setR0_r1 (v : Word) : (setR0 v s).r1 = s.r1 := rfl
@[simp] theorem setR0_ie (v : Word) : (setR0 v s).ie = s.ie := rfl
@[simp] theorem setR0_idtLoaded (v : Word) : (setR0 v s).idtLoaded = s.idtLoaded := rfl
@[simp] theorem setR0_idtr (v : Word) : (setR0 v s).idtr = s.idtr := rfl
@[simp] theorem setR0_gates (v : Word) : (setR0 v s).gates = s.gates := rfl
@[simp] theorem setR0_ticks (v : Word) : (setR0 v s).ticks = s.ticks := rfl
@[simp] theorem setR0_cb (v : Word) : (setR0 v s).cb = s.cb := rfl
@[simp] theorem setR0_timerArmed (v : Word) : (setR0 v s).timerArmed = s.timerArmed := rfl
@[simp] theorem setR0_kbuf (v : Word) : (setR0 v s).kbuf = s.kbuf := rfl
@[simp] theorem setR0_khead (v : Word) : (setR0 v s).khead = s.khead := rfl
@[simp] theorem setR0_ktail (v : Word) : (setR0 v s).ktail = s.ktail := rfl
@[simp] theorem setR0_kcount (v : Word) : (setR0 v s).kcount = s.kcount := rfl
@[simp] theorem setR0_decAug (v : Word) : (setR0 v s).decAug = s.decAug := rfl
@[simp] theorem setR0_row (v : Word) : (setR0 v s).row = s.row := rfl
@[simp] theorem setR0_col (v : Word) : (setR0 v s).col = s.col := rfl
@[simp] theorem setR0_color (v : Word) : (setR0 v s).color = s.color := rfl
@[simp] theorem setR0_hidden (v : Word) : (setR0 v s).hidden = s.hidden := rfl
@[simp] theorem setR0_hwcur (v : Word) : (setR0 v s).hwcur = s.hwcur := rfl
@[simp] theorem setR0_grid (v : Word) : (setR0 v s).grid = s.grid := rfl
@[simp] theorem setR0_out (v : Word) : (setR0 v s).out = s.out := rfl
@[simp] theorem setR0_fault (v : Word) : (setR0 v s).fault = s.fault := rfl

/-! ### `setR1` -/

@[simp] theorem setR1_cfg (v : Word) : (setR1 v s).cfg = s.cfg := rfl
@[simp] theorem setR1_client (v : Word) : (setR1 v s).client = s.client := rfl
@[simp] theorem setR1_inbox (v : Word) : (setR1 v s).inbox = s.inbox := rfl
@[simp] theorem setR1_busData (v : Word) : (setR1 v s).busData = s.busData := rfl
@[simp] theorem setR1_draws (v : Word) : (setR1 v s).draws = s.draws := rfl
@[simp] theorem setR1_a0 (v : Word) : (setR1 v s).a0 = s.a0 := rfl
@[simp] theorem setR1_a1 (v : Word) : (setR1 v s).a1 = s.a1 := rfl
@[simp] theorem setR1_a2 (v : Word) : (setR1 v s).a2 = s.a2 := rfl
@[simp] theorem setR1_a3 (v : Word) : (setR1 v s).a3 = s.a3 := rfl
@[simp] theorem setR1_r0 (v : Word) : (setR1 v s).r0 = s.r0 := rfl
@[simp] theorem setR1_r1 (v : Word) : (setR1 v s).r1 = v := rfl
@[simp] theorem setR1_ie (v : Word) : (setR1 v s).ie = s.ie := rfl
@[simp] theorem setR1_idtLoaded (v : Word) : (setR1 v s).idtLoaded = s.idtLoaded := rfl
@[simp] theorem setR1_idtr (v : Word) : (setR1 v s).idtr = s.idtr := rfl
@[simp] theorem setR1_gates (v : Word) : (setR1 v s).gates = s.gates := rfl
@[simp] theorem setR1_ticks (v : Word) : (setR1 v s).ticks = s.ticks := rfl
@[simp] theorem setR1_cb (v : Word) : (setR1 v s).cb = s.cb := rfl
@[simp] theorem setR1_timerArmed (v : Word) : (setR1 v s).timerArmed = s.timerArmed := rfl
@[simp] theorem setR1_kbuf (v : Word) : (setR1 v s).kbuf = s.kbuf := rfl
@[simp] theorem setR1_khead (v : Word) : (setR1 v s).khead = s.khead := rfl
@[simp] theorem setR1_ktail (v : Word) : (setR1 v s).ktail = s.ktail := rfl
@[simp] theorem setR1_kcount (v : Word) : (setR1 v s).kcount = s.kcount := rfl
@[simp] theorem setR1_decAug (v : Word) : (setR1 v s).decAug = s.decAug := rfl
@[simp] theorem setR1_row (v : Word) : (setR1 v s).row = s.row := rfl
@[simp] theorem setR1_col (v : Word) : (setR1 v s).col = s.col := rfl
@[simp] theorem setR1_color (v : Word) : (setR1 v s).color = s.color := rfl
@[simp] theorem setR1_hidden (v : Word) : (setR1 v s).hidden = s.hidden := rfl
@[simp] theorem setR1_hwcur (v : Word) : (setR1 v s).hwcur = s.hwcur := rfl
@[simp] theorem setR1_grid (v : Word) : (setR1 v s).grid = s.grid := rfl
@[simp] theorem setR1_out (v : Word) : (setR1 v s).out = s.out := rfl
@[simp] theorem setR1_fault (v : Word) : (setR1 v s).fault = s.fault := rfl

/-! ### `emit` -/

@[simp] theorem emit_cfg (e : OutEvent) : (emit e s).cfg = s.cfg := rfl
@[simp] theorem emit_client (e : OutEvent) : (emit e s).client = s.client := rfl
@[simp] theorem emit_inbox (e : OutEvent) : (emit e s).inbox = s.inbox := rfl
@[simp] theorem emit_busData (e : OutEvent) : (emit e s).busData = s.busData := rfl
@[simp] theorem emit_draws (e : OutEvent) : (emit e s).draws = s.draws := rfl
@[simp] theorem emit_a0 (e : OutEvent) : (emit e s).a0 = s.a0 := rfl
@[simp] theorem emit_a1 (e : OutEvent) : (emit e s).a1 = s.a1 := rfl
@[simp] theorem emit_a2 (e : OutEvent) : (emit e s).a2 = s.a2 := rfl
@[simp] theorem emit_a3 (e : OutEvent) : (emit e s).a3 = s.a3 := rfl
@[simp] theorem emit_r0 (e : OutEvent) : (emit e s).r0 = s.r0 := rfl
@[simp] theorem emit_r1 (e : OutEvent) : (emit e s).r1 = s.r1 := rfl
@[simp] theorem emit_ie (e : OutEvent) : (emit e s).ie = s.ie := rfl
@[simp] theorem emit_idtLoaded (e : OutEvent) : (emit e s).idtLoaded = s.idtLoaded := rfl
@[simp] theorem emit_idtr (e : OutEvent) : (emit e s).idtr = s.idtr := rfl
@[simp] theorem emit_gates (e : OutEvent) : (emit e s).gates = s.gates := rfl
@[simp] theorem emit_ticks (e : OutEvent) : (emit e s).ticks = s.ticks := rfl
@[simp] theorem emit_cb (e : OutEvent) : (emit e s).cb = s.cb := rfl
@[simp] theorem emit_timerArmed (e : OutEvent) : (emit e s).timerArmed = s.timerArmed := rfl
@[simp] theorem emit_kbuf (e : OutEvent) : (emit e s).kbuf = s.kbuf := rfl
@[simp] theorem emit_khead (e : OutEvent) : (emit e s).khead = s.khead := rfl
@[simp] theorem emit_ktail (e : OutEvent) : (emit e s).ktail = s.ktail := rfl
@[simp] theorem emit_kcount (e : OutEvent) : (emit e s).kcount = s.kcount := rfl
@[simp] theorem emit_decAug (e : OutEvent) : (emit e s).decAug = s.decAug := rfl
@[simp] theorem emit_row (e : OutEvent) : (emit e s).row = s.row := rfl
@[simp] theorem emit_col (e : OutEvent) : (emit e s).col = s.col := rfl
@[simp] theorem emit_color (e : OutEvent) : (emit e s).color = s.color := rfl
@[simp] theorem emit_hidden (e : OutEvent) : (emit e s).hidden = s.hidden := rfl
@[simp] theorem emit_hwcur (e : OutEvent) : (emit e s).hwcur = s.hwcur := rfl
@[simp] theorem emit_grid (e : OutEvent) : (emit e s).grid = s.grid := rfl
@[simp] theorem emit_out (e : OutEvent) : (emit e s).out = s.out ++ [e] := rfl
@[simp] theorem emit_fault (e : OutEvent) : (emit e s).fault = s.fault := rfl

/-! ### `raiseFault` -/

@[simp] theorem raiseFault_cfg (f : Fault) : (raiseFault f s).cfg = s.cfg := rfl
@[simp] theorem raiseFault_client (f : Fault) : (raiseFault f s).client = s.client := rfl
@[simp] theorem raiseFault_inbox (f : Fault) : (raiseFault f s).inbox = s.inbox := rfl
@[simp] theorem raiseFault_busData (f : Fault) : (raiseFault f s).busData = s.busData := rfl
@[simp] theorem raiseFault_draws (f : Fault) : (raiseFault f s).draws = s.draws := rfl
@[simp] theorem raiseFault_a0 (f : Fault) : (raiseFault f s).a0 = s.a0 := rfl
@[simp] theorem raiseFault_a1 (f : Fault) : (raiseFault f s).a1 = s.a1 := rfl
@[simp] theorem raiseFault_a2 (f : Fault) : (raiseFault f s).a2 = s.a2 := rfl
@[simp] theorem raiseFault_a3 (f : Fault) : (raiseFault f s).a3 = s.a3 := rfl
@[simp] theorem raiseFault_r0 (f : Fault) : (raiseFault f s).r0 = s.r0 := rfl
@[simp] theorem raiseFault_r1 (f : Fault) : (raiseFault f s).r1 = s.r1 := rfl
@[simp] theorem raiseFault_ie (f : Fault) : (raiseFault f s).ie = s.ie := rfl
@[simp] theorem raiseFault_idtLoaded (f : Fault) : (raiseFault f s).idtLoaded = s.idtLoaded := rfl
@[simp] theorem raiseFault_idtr (f : Fault) : (raiseFault f s).idtr = s.idtr := rfl
@[simp] theorem raiseFault_gates (f : Fault) : (raiseFault f s).gates = s.gates := rfl
@[simp] theorem raiseFault_ticks (f : Fault) : (raiseFault f s).ticks = s.ticks := rfl
@[simp] theorem raiseFault_cb (f : Fault) : (raiseFault f s).cb = s.cb := rfl
@[simp] theorem raiseFault_timerArmed (f : Fault) : (raiseFault f s).timerArmed = s.timerArmed := rfl
@[simp] theorem raiseFault_kbuf (f : Fault) : (raiseFault f s).kbuf = s.kbuf := rfl
@[simp] theorem raiseFault_khead (f : Fault) : (raiseFault f s).khead = s.khead := rfl
@[simp] theorem raiseFault_ktail (f : Fault) : (raiseFault f s).ktail = s.ktail := rfl
@[simp] theorem raiseFault_kcount (f : Fault) : (raiseFault f s).kcount = s.kcount := rfl
@[simp] theorem raiseFault_decAug (f : Fault) : (raiseFault f s).decAug = s.decAug := rfl
@[simp] theorem raiseFault_row (f : Fault) : (raiseFault f s).row = s.row := rfl
@[simp] theorem raiseFault_col (f : Fault) : (raiseFault f s).col = s.col := rfl
@[simp] theorem raiseFault_color (f : Fault) : (raiseFault f s).color = s.color := rfl
@[simp] theorem raiseFault_hidden (f : Fault) : (raiseFault f s).hidden = s.hidden := rfl
@[simp] theorem raiseFault_hwcur (f : Fault) : (raiseFault f s).hwcur = s.hwcur := rfl
@[simp] theorem raiseFault_grid (f : Fault) : (raiseFault f s).grid = s.grid := rfl
@[simp] theorem raiseFault_out (f : Fault) : (raiseFault f s).out = s.out := rfl
@[simp] theorem raiseFault_fault (f : Fault) : (raiseFault f s).fault = some f := rfl

/-! ### `setIe` -/

@[simp] theorem setIe_cfg (b : Bool) : (setIe b s).cfg = s.cfg := rfl
@[simp] theorem setIe_client (b : Bool) : (setIe b s).client = s.client := rfl
@[simp] theorem setIe_inbox (b : Bool) : (setIe b s).inbox = s.inbox := rfl
@[simp] theorem setIe_busData (b : Bool) : (setIe b s).busData = s.busData := rfl
@[simp] theorem setIe_draws (b : Bool) : (setIe b s).draws = s.draws := rfl
@[simp] theorem setIe_a0 (b : Bool) : (setIe b s).a0 = s.a0 := rfl
@[simp] theorem setIe_a1 (b : Bool) : (setIe b s).a1 = s.a1 := rfl
@[simp] theorem setIe_a2 (b : Bool) : (setIe b s).a2 = s.a2 := rfl
@[simp] theorem setIe_a3 (b : Bool) : (setIe b s).a3 = s.a3 := rfl
@[simp] theorem setIe_r0 (b : Bool) : (setIe b s).r0 = s.r0 := rfl
@[simp] theorem setIe_r1 (b : Bool) : (setIe b s).r1 = s.r1 := rfl
@[simp] theorem setIe_ie (b : Bool) : (setIe b s).ie = b := rfl
@[simp] theorem setIe_idtLoaded (b : Bool) : (setIe b s).idtLoaded = s.idtLoaded := rfl
@[simp] theorem setIe_idtr (b : Bool) : (setIe b s).idtr = s.idtr := rfl
@[simp] theorem setIe_gates (b : Bool) : (setIe b s).gates = s.gates := rfl
@[simp] theorem setIe_ticks (b : Bool) : (setIe b s).ticks = s.ticks := rfl
@[simp] theorem setIe_cb (b : Bool) : (setIe b s).cb = s.cb := rfl
@[simp] theorem setIe_timerArmed (b : Bool) : (setIe b s).timerArmed = s.timerArmed := rfl
@[simp] theorem setIe_kbuf (b : Bool) : (setIe b s).kbuf = s.kbuf := rfl
@[simp] theorem setIe_khead (b : Bool) : (setIe b s).khead = s.khead := rfl
@[simp] theorem setIe_ktail (b : Bool) : (setIe b s).ktail = s.ktail := rfl
@[simp] theorem setIe_kcount (b : Bool) : (setIe b s).kcount = s.kcount := rfl
@[simp] theorem setIe_decAug (b : Bool) : (setIe b s).decAug = s.decAug := rfl
@[simp] theorem setIe_row (b : Bool) : (setIe b s).row = s.row := rfl
@[simp] theorem setIe_col (b : Bool) : (setIe b s).col = s.col := rfl
@[simp] theorem setIe_color (b : Bool) : (setIe b s).color = s.color := rfl
@[simp] theorem setIe_hidden (b : Bool) : (setIe b s).hidden = s.hidden := rfl
@[simp] theorem setIe_hwcur (b : Bool) : (setIe b s).hwcur = s.hwcur := rfl
@[simp] theorem setIe_grid (b : Bool) : (setIe b s).grid = s.grid := rfl
@[simp] theorem setIe_out (b : Bool) : (setIe b s).out = s.out := rfl
@[simp] theorem setIe_fault (b : Bool) : (setIe b s).fault = s.fault := rfl

/-! ### `setIdtLoaded` -/

@[simp] theorem setIdtLoaded_cfg : (setIdtLoaded s).cfg = s.cfg := rfl
@[simp] theorem setIdtLoaded_client : (setIdtLoaded s).client = s.client := rfl
@[simp] theorem setIdtLoaded_inbox : (setIdtLoaded s).inbox = s.inbox := rfl
@[simp] theorem setIdtLoaded_busData : (setIdtLoaded s).busData = s.busData := rfl
@[simp] theorem setIdtLoaded_draws : (setIdtLoaded s).draws = s.draws := rfl
@[simp] theorem setIdtLoaded_a0 : (setIdtLoaded s).a0 = s.a0 := rfl
@[simp] theorem setIdtLoaded_a1 : (setIdtLoaded s).a1 = s.a1 := rfl
@[simp] theorem setIdtLoaded_a2 : (setIdtLoaded s).a2 = s.a2 := rfl
@[simp] theorem setIdtLoaded_a3 : (setIdtLoaded s).a3 = s.a3 := rfl
@[simp] theorem setIdtLoaded_r0 : (setIdtLoaded s).r0 = s.r0 := rfl
@[simp] theorem setIdtLoaded_r1 : (setIdtLoaded s).r1 = s.r1 := rfl
@[simp] theorem setIdtLoaded_ie : (setIdtLoaded s).ie = s.ie := rfl
@[simp] theorem setIdtLoaded_idtLoaded : (setIdtLoaded s).idtLoaded = true := rfl
@[simp] theorem setIdtLoaded_idtr : (setIdtLoaded s).idtr = s.idtr := rfl
@[simp] theorem setIdtLoaded_gates : (setIdtLoaded s).gates = s.gates := rfl
@[simp] theorem setIdtLoaded_ticks : (setIdtLoaded s).ticks = s.ticks := rfl
@[simp] theorem setIdtLoaded_cb : (setIdtLoaded s).cb = s.cb := rfl
@[simp] theorem setIdtLoaded_timerArmed : (setIdtLoaded s).timerArmed = s.timerArmed := rfl
@[simp] theorem setIdtLoaded_kbuf : (setIdtLoaded s).kbuf = s.kbuf := rfl
@[simp] theorem setIdtLoaded_khead : (setIdtLoaded s).khead = s.khead := rfl
@[simp] theorem setIdtLoaded_ktail : (setIdtLoaded s).ktail = s.ktail := rfl
@[simp] theorem setIdtLoaded_kcount : (setIdtLoaded s).kcount = s.kcount := rfl
@[simp] theorem setIdtLoaded_decAug : (setIdtLoaded s).decAug = s.decAug := rfl
@[simp] theorem setIdtLoaded_row : (setIdtLoaded s).row = s.row := rfl
@[simp] theorem setIdtLoaded_col : (setIdtLoaded s).col = s.col := rfl
@[simp] theorem setIdtLoaded_color : (setIdtLoaded s).color = s.color := rfl
@[simp] theorem setIdtLoaded_hidden : (setIdtLoaded s).hidden = s.hidden := rfl
@[simp] theorem setIdtLoaded_hwcur : (setIdtLoaded s).hwcur = s.hwcur := rfl
@[simp] theorem setIdtLoaded_grid : (setIdtLoaded s).grid = s.grid := rfl
@[simp] theorem setIdtLoaded_out : (setIdtLoaded s).out = s.out := rfl
@[simp] theorem setIdtLoaded_fault : (setIdtLoaded s).fault = s.fault := rfl

/-! ### `setTimerArmed` -/

@[simp] theorem setTimerArmed_cfg : (setTimerArmed s).cfg = s.cfg := rfl
@[simp] theorem setTimerArmed_client : (setTimerArmed s).client = s.client := rfl
@[simp] theorem setTimerArmed_inbox : (setTimerArmed s).inbox = s.inbox := rfl
@[simp] theorem setTimerArmed_busData : (setTimerArmed s).busData = s.busData := rfl
@[simp] theorem setTimerArmed_draws : (setTimerArmed s).draws = s.draws := rfl
@[simp] theorem setTimerArmed_a0 : (setTimerArmed s).a0 = s.a0 := rfl
@[simp] theorem setTimerArmed_a1 : (setTimerArmed s).a1 = s.a1 := rfl
@[simp] theorem setTimerArmed_a2 : (setTimerArmed s).a2 = s.a2 := rfl
@[simp] theorem setTimerArmed_a3 : (setTimerArmed s).a3 = s.a3 := rfl
@[simp] theorem setTimerArmed_r0 : (setTimerArmed s).r0 = s.r0 := rfl
@[simp] theorem setTimerArmed_r1 : (setTimerArmed s).r1 = s.r1 := rfl
@[simp] theorem setTimerArmed_ie : (setTimerArmed s).ie = s.ie := rfl
@[simp] theorem setTimerArmed_idtLoaded : (setTimerArmed s).idtLoaded = s.idtLoaded := rfl
@[simp] theorem setTimerArmed_idtr : (setTimerArmed s).idtr = s.idtr := rfl
@[simp] theorem setTimerArmed_gates : (setTimerArmed s).gates = s.gates := rfl
@[simp] theorem setTimerArmed_ticks : (setTimerArmed s).ticks = s.ticks := rfl
@[simp] theorem setTimerArmed_cb : (setTimerArmed s).cb = s.cb := rfl
@[simp] theorem setTimerArmed_timerArmed : (setTimerArmed s).timerArmed = true := rfl
@[simp] theorem setTimerArmed_kbuf : (setTimerArmed s).kbuf = s.kbuf := rfl
@[simp] theorem setTimerArmed_khead : (setTimerArmed s).khead = s.khead := rfl
@[simp] theorem setTimerArmed_ktail : (setTimerArmed s).ktail = s.ktail := rfl
@[simp] theorem setTimerArmed_kcount : (setTimerArmed s).kcount = s.kcount := rfl
@[simp] theorem setTimerArmed_decAug : (setTimerArmed s).decAug = s.decAug := rfl
@[simp] theorem setTimerArmed_row : (setTimerArmed s).row = s.row := rfl
@[simp] theorem setTimerArmed_col : (setTimerArmed s).col = s.col := rfl
@[simp] theorem setTimerArmed_color : (setTimerArmed s).color = s.color := rfl
@[simp] theorem setTimerArmed_hidden : (setTimerArmed s).hidden = s.hidden := rfl
@[simp] theorem setTimerArmed_hwcur : (setTimerArmed s).hwcur = s.hwcur := rfl
@[simp] theorem setTimerArmed_grid : (setTimerArmed s).grid = s.grid := rfl
@[simp] theorem setTimerArmed_out : (setTimerArmed s).out = s.out := rfl
@[simp] theorem setTimerArmed_fault : (setTimerArmed s).fault = s.fault := rfl

/-! ### `setHidden` -/

@[simp] theorem setHidden_cfg (b : Bool) : (setHidden b s).cfg = s.cfg := rfl
@[simp] theorem setHidden_client (b : Bool) : (setHidden b s).client = s.client := rfl
@[simp] theorem setHidden_inbox (b : Bool) : (setHidden b s).inbox = s.inbox := rfl
@[simp] theorem setHidden_busData (b : Bool) : (setHidden b s).busData = s.busData := rfl
@[simp] theorem setHidden_draws (b : Bool) : (setHidden b s).draws = s.draws := rfl
@[simp] theorem setHidden_a0 (b : Bool) : (setHidden b s).a0 = s.a0 := rfl
@[simp] theorem setHidden_a1 (b : Bool) : (setHidden b s).a1 = s.a1 := rfl
@[simp] theorem setHidden_a2 (b : Bool) : (setHidden b s).a2 = s.a2 := rfl
@[simp] theorem setHidden_a3 (b : Bool) : (setHidden b s).a3 = s.a3 := rfl
@[simp] theorem setHidden_r0 (b : Bool) : (setHidden b s).r0 = s.r0 := rfl
@[simp] theorem setHidden_r1 (b : Bool) : (setHidden b s).r1 = s.r1 := rfl
@[simp] theorem setHidden_ie (b : Bool) : (setHidden b s).ie = s.ie := rfl
@[simp] theorem setHidden_idtLoaded (b : Bool) : (setHidden b s).idtLoaded = s.idtLoaded := rfl
@[simp] theorem setHidden_idtr (b : Bool) : (setHidden b s).idtr = s.idtr := rfl
@[simp] theorem setHidden_gates (b : Bool) : (setHidden b s).gates = s.gates := rfl
@[simp] theorem setHidden_ticks (b : Bool) : (setHidden b s).ticks = s.ticks := rfl
@[simp] theorem setHidden_cb (b : Bool) : (setHidden b s).cb = s.cb := rfl
@[simp] theorem setHidden_timerArmed (b : Bool) : (setHidden b s).timerArmed = s.timerArmed := rfl
@[simp] theorem setHidden_kbuf (b : Bool) : (setHidden b s).kbuf = s.kbuf := rfl
@[simp] theorem setHidden_khead (b : Bool) : (setHidden b s).khead = s.khead := rfl
@[simp] theorem setHidden_ktail (b : Bool) : (setHidden b s).ktail = s.ktail := rfl
@[simp] theorem setHidden_kcount (b : Bool) : (setHidden b s).kcount = s.kcount := rfl
@[simp] theorem setHidden_decAug (b : Bool) : (setHidden b s).decAug = s.decAug := rfl
@[simp] theorem setHidden_row (b : Bool) : (setHidden b s).row = s.row := rfl
@[simp] theorem setHidden_col (b : Bool) : (setHidden b s).col = s.col := rfl
@[simp] theorem setHidden_color (b : Bool) : (setHidden b s).color = s.color := rfl
@[simp] theorem setHidden_hidden (b : Bool) : (setHidden b s).hidden = b := rfl
@[simp] theorem setHidden_hwcur (b : Bool) : (setHidden b s).hwcur = s.hwcur := rfl
@[simp] theorem setHidden_grid (b : Bool) : (setHidden b s).grid = s.grid := rfl
@[simp] theorem setHidden_out (b : Bool) : (setHidden b s).out = s.out := rfl
@[simp] theorem setHidden_fault (b : Bool) : (setHidden b s).fault = s.fault := rfl

/-! ### `setDecAug` -/

@[simp] theorem setDecAug_cfg (b : Bool) : (setDecAug b s).cfg = s.cfg := rfl
@[simp] theorem setDecAug_client (b : Bool) : (setDecAug b s).client = s.client := rfl
@[simp] theorem setDecAug_inbox (b : Bool) : (setDecAug b s).inbox = s.inbox := rfl
@[simp] theorem setDecAug_busData (b : Bool) : (setDecAug b s).busData = s.busData := rfl
@[simp] theorem setDecAug_draws (b : Bool) : (setDecAug b s).draws = s.draws := rfl
@[simp] theorem setDecAug_a0 (b : Bool) : (setDecAug b s).a0 = s.a0 := rfl
@[simp] theorem setDecAug_a1 (b : Bool) : (setDecAug b s).a1 = s.a1 := rfl
@[simp] theorem setDecAug_a2 (b : Bool) : (setDecAug b s).a2 = s.a2 := rfl
@[simp] theorem setDecAug_a3 (b : Bool) : (setDecAug b s).a3 = s.a3 := rfl
@[simp] theorem setDecAug_r0 (b : Bool) : (setDecAug b s).r0 = s.r0 := rfl
@[simp] theorem setDecAug_r1 (b : Bool) : (setDecAug b s).r1 = s.r1 := rfl
@[simp] theorem setDecAug_ie (b : Bool) : (setDecAug b s).ie = s.ie := rfl
@[simp] theorem setDecAug_idtLoaded (b : Bool) : (setDecAug b s).idtLoaded = s.idtLoaded := rfl
@[simp] theorem setDecAug_idtr (b : Bool) : (setDecAug b s).idtr = s.idtr := rfl
@[simp] theorem setDecAug_gates (b : Bool) : (setDecAug b s).gates = s.gates := rfl
@[simp] theorem setDecAug_ticks (b : Bool) : (setDecAug b s).ticks = s.ticks := rfl
@[simp] theorem setDecAug_cb (b : Bool) : (setDecAug b s).cb = s.cb := rfl
@[simp] theorem setDecAug_timerArmed (b : Bool) : (setDecAug b s).timerArmed = s.timerArmed := rfl
@[simp] theorem setDecAug_kbuf (b : Bool) : (setDecAug b s).kbuf = s.kbuf := rfl
@[simp] theorem setDecAug_khead (b : Bool) : (setDecAug b s).khead = s.khead := rfl
@[simp] theorem setDecAug_ktail (b : Bool) : (setDecAug b s).ktail = s.ktail := rfl
@[simp] theorem setDecAug_kcount (b : Bool) : (setDecAug b s).kcount = s.kcount := rfl
@[simp] theorem setDecAug_decAug (b : Bool) : (setDecAug b s).decAug = b := rfl
@[simp] theorem setDecAug_row (b : Bool) : (setDecAug b s).row = s.row := rfl
@[simp] theorem setDecAug_col (b : Bool) : (setDecAug b s).col = s.col := rfl
@[simp] theorem setDecAug_color (b : Bool) : (setDecAug b s).color = s.color := rfl
@[simp] theorem setDecAug_hidden (b : Bool) : (setDecAug b s).hidden = s.hidden := rfl
@[simp] theorem setDecAug_hwcur (b : Bool) : (setDecAug b s).hwcur = s.hwcur := rfl
@[simp] theorem setDecAug_grid (b : Bool) : (setDecAug b s).grid = s.grid := rfl
@[simp] theorem setDecAug_out (b : Bool) : (setDecAug b s).out = s.out := rfl
@[simp] theorem setDecAug_fault (b : Bool) : (setDecAug b s).fault = s.fault := rfl

/-! ### `setCursor` -/

@[simp] theorem setCursor_cfg (r c : Nat) : (setCursor r c s).cfg = s.cfg := rfl
@[simp] theorem setCursor_client (r c : Nat) : (setCursor r c s).client = s.client := rfl
@[simp] theorem setCursor_inbox (r c : Nat) : (setCursor r c s).inbox = s.inbox := rfl
@[simp] theorem setCursor_busData (r c : Nat) : (setCursor r c s).busData = s.busData := rfl
@[simp] theorem setCursor_draws (r c : Nat) : (setCursor r c s).draws = s.draws := rfl
@[simp] theorem setCursor_a0 (r c : Nat) : (setCursor r c s).a0 = s.a0 := rfl
@[simp] theorem setCursor_a1 (r c : Nat) : (setCursor r c s).a1 = s.a1 := rfl
@[simp] theorem setCursor_a2 (r c : Nat) : (setCursor r c s).a2 = s.a2 := rfl
@[simp] theorem setCursor_a3 (r c : Nat) : (setCursor r c s).a3 = s.a3 := rfl
@[simp] theorem setCursor_r0 (r c : Nat) : (setCursor r c s).r0 = s.r0 := rfl
@[simp] theorem setCursor_r1 (r c : Nat) : (setCursor r c s).r1 = s.r1 := rfl
@[simp] theorem setCursor_ie (r c : Nat) : (setCursor r c s).ie = s.ie := rfl
@[simp] theorem setCursor_idtLoaded (r c : Nat) : (setCursor r c s).idtLoaded = s.idtLoaded := rfl
@[simp] theorem setCursor_idtr (r c : Nat) : (setCursor r c s).idtr = s.idtr := rfl
@[simp] theorem setCursor_gates (r c : Nat) : (setCursor r c s).gates = s.gates := rfl
@[simp] theorem setCursor_ticks (r c : Nat) : (setCursor r c s).ticks = s.ticks := rfl
@[simp] theorem setCursor_cb (r c : Nat) : (setCursor r c s).cb = s.cb := rfl
@[simp] theorem setCursor_timerArmed (r c : Nat) : (setCursor r c s).timerArmed = s.timerArmed := rfl
@[simp] theorem setCursor_kbuf (r c : Nat) : (setCursor r c s).kbuf = s.kbuf := rfl
@[simp] theorem setCursor_khead (r c : Nat) : (setCursor r c s).khead = s.khead := rfl
@[simp] theorem setCursor_ktail (r c : Nat) : (setCursor r c s).ktail = s.ktail := rfl
@[simp] theorem setCursor_kcount (r c : Nat) : (setCursor r c s).kcount = s.kcount := rfl
@[simp] theorem setCursor_decAug (r c : Nat) : (setCursor r c s).decAug = s.decAug := rfl
@[simp] theorem setCursor_row (r c : Nat) : (setCursor r c s).row = r := rfl
@[simp] theorem setCursor_col (r c : Nat) : (setCursor r c s).col = c := rfl
@[simp] theorem setCursor_color (r c : Nat) : (setCursor r c s).color = s.color := rfl
@[simp] theorem setCursor_hidden (r c : Nat) : (setCursor r c s).hidden = s.hidden := rfl
@[simp] theorem setCursor_hwcur (r c : Nat) : (setCursor r c s).hwcur = s.hwcur := rfl
@[simp] theorem setCursor_grid (r c : Nat) : (setCursor r c s).grid = s.grid := rfl
@[simp] theorem setCursor_out (r c : Nat) : (setCursor r c s).out = s.out := rfl
@[simp] theorem setCursor_fault (r c : Nat) : (setCursor r c s).fault = s.fault := rfl

/-! ### `gridWrite` -/

@[simp] theorem gridWrite_cfg (a : Nat) (v : Byte) : (gridWrite a v s).cfg = s.cfg := rfl
@[simp] theorem gridWrite_client (a : Nat) (v : Byte) : (gridWrite a v s).client = s.client := rfl
@[simp] theorem gridWrite_inbox (a : Nat) (v : Byte) : (gridWrite a v s).inbox = s.inbox := rfl
@[simp] theorem gridWrite_busData (a : Nat) (v : Byte) : (gridWrite a v s).busData = s.busData := rfl
@[simp] theorem gridWrite_draws (a : Nat) (v : Byte) : (gridWrite a v s).draws = s.draws := rfl
@[simp] theorem gridWrite_a0 (a : Nat) (v : Byte) : (gridWrite a v s).a0 = s.a0 := rfl
@[simp] theorem gridWrite_a1 (a : Nat) (v : Byte) : (gridWrite a v s).a1 = s.a1 := rfl
@[simp] theorem gridWrite_a2 (a : Nat) (v : Byte) : (gridWrite a v s).a2 = s.a2 := rfl
@[simp] theorem gridWrite_a3 (a : Nat) (v : Byte) : (gridWrite a v s).a3 = s.a3 := rfl
@[simp] theorem gridWrite_r0 (a : Nat) (v : Byte) : (gridWrite a v s).r0 = s.r0 := rfl
@[simp] theorem gridWrite_r1 (a : Nat) (v : Byte) : (gridWrite a v s).r1 = s.r1 := rfl
@[simp] theorem gridWrite_ie (a : Nat) (v : Byte) : (gridWrite a v s).ie = s.ie := rfl
@[simp] theorem gridWrite_idtLoaded (a : Nat) (v : Byte) : (gridWrite a v s).idtLoaded = s.idtLoaded := rfl
@[simp] theorem gridWrite_idtr (a : Nat) (v : Byte) : (gridWrite a v s).idtr = s.idtr := rfl
@[simp] theorem gridWrite_gates (a : Nat) (v : Byte) : (gridWrite a v s).gates = s.gates := rfl
@[simp] theorem gridWrite_ticks (a : Nat) (v : Byte) : (gridWrite a v s).ticks = s.ticks := rfl
@[simp] theorem gridWrite_cb (a : Nat) (v : Byte) : (gridWrite a v s).cb = s.cb := rfl
@[simp] theorem gridWrite_timerArmed (a : Nat) (v : Byte) : (gridWrite a v s).timerArmed = s.timerArmed := rfl
@[simp] theorem gridWrite_kbuf (a : Nat) (v : Byte) : (gridWrite a v s).kbuf = s.kbuf := rfl
@[simp] theorem gridWrite_khead (a : Nat) (v : Byte) : (gridWrite a v s).khead = s.khead := rfl
@[simp] theorem gridWrite_ktail (a : Nat) (v : Byte) : (gridWrite a v s).ktail = s.ktail := rfl
@[simp] theorem gridWrite_kcount (a : Nat) (v : Byte) : (gridWrite a v s).kcount = s.kcount := rfl
@[simp] theorem gridWrite_decAug (a : Nat) (v : Byte) : (gridWrite a v s).decAug = s.decAug := rfl
@[simp] theorem gridWrite_row (a : Nat) (v : Byte) : (gridWrite a v s).row = s.row := rfl
@[simp] theorem gridWrite_col (a : Nat) (v : Byte) : (gridWrite a v s).col = s.col := rfl
@[simp] theorem gridWrite_color (a : Nat) (v : Byte) : (gridWrite a v s).color = s.color := rfl
@[simp] theorem gridWrite_hidden (a : Nat) (v : Byte) : (gridWrite a v s).hidden = s.hidden := rfl
@[simp] theorem gridWrite_hwcur (a : Nat) (v : Byte) : (gridWrite a v s).hwcur = s.hwcur := rfl
@[simp] theorem gridWrite_grid (a : Nat) (v : Byte) : (gridWrite a v s).grid = Store.write Config.gridDraw s.grid a v := rfl
@[simp] theorem gridWrite_out (a : Nat) (v : Byte) : (gridWrite a v s).out = s.out := rfl
@[simp] theorem gridWrite_fault (a : Nat) (v : Byte) : (gridWrite a v s).fault = s.fault := rfl

/-! ### `writeCell` -/

@[simp] theorem writeCell_cfg (r c : Nat) (ch attr : Byte) : (writeCell r c ch attr s).cfg = s.cfg := rfl
@[simp] theorem writeCell_client (r c : Nat) (ch attr : Byte) : (writeCell r c ch attr s).client = s.client := rfl
@[simp] theorem writeCell_inbox (r c : Nat) (ch attr : Byte) : (writeCell r c ch attr s).inbox = s.inbox := rfl
@[simp] theorem writeCell_busData (r c : Nat) (ch attr : Byte) : (writeCell r c ch attr s).busData = s.busData := rfl
@[simp] theorem writeCell_draws (r c : Nat) (ch attr : Byte) : (writeCell r c ch attr s).draws = s.draws := rfl
@[simp] theorem writeCell_a0 (r c : Nat) (ch attr : Byte) : (writeCell r c ch attr s).a0 = s.a0 := rfl
@[simp] theorem writeCell_a1 (r c : Nat) (ch attr : Byte) : (writeCell r c ch attr s).a1 = s.a1 := rfl
@[simp] theorem writeCell_a2 (r c : Nat) (ch attr : Byte) : (writeCell r c ch attr s).a2 = s.a2 := rfl
@[simp] theorem writeCell_a3 (r c : Nat) (ch attr : Byte) : (writeCell r c ch attr s).a3 = s.a3 := rfl
@[simp] theorem writeCell_r0 (r c : Nat) (ch attr : Byte) : (writeCell r c ch attr s).r0 = s.r0 := rfl
@[simp] theorem writeCell_r1 (r c : Nat) (ch attr : Byte) : (writeCell r c ch attr s).r1 = s.r1 := rfl
@[simp] theorem writeCell_ie (r c : Nat) (ch attr : Byte) : (writeCell r c ch attr s).ie = s.ie := rfl
@[simp] theorem writeCell_idtLoaded (r c : Nat) (ch attr : Byte) : (writeCell r c ch attr s).idtLoaded = s.idtLoaded := rfl
@[simp] theorem writeCell_idtr (r c : Nat) (ch attr : Byte) : (writeCell r c ch attr s).idtr = s.idtr := rfl
@[simp] theorem writeCell_gates (r c : Nat) (ch attr : Byte) : (writeCell r c ch attr s).gates = s.gates := rfl
@[simp] theorem writeCell_ticks (r c : Nat) (ch attr : Byte) : (writeCell r c ch attr s).ticks = s.ticks := rfl
@[simp] theorem writeCell_cb (r c : Nat) (ch attr : Byte) : (writeCell r c ch attr s).cb = s.cb := rfl
@[simp] theorem writeCell_timerArmed (r c : Nat) (ch attr : Byte) : (writeCell r c ch attr s).timerArmed = s.timerArmed := rfl
@[simp] theorem writeCell_kbuf (r c : Nat) (ch attr : Byte) : (writeCell r c ch attr s).kbuf = s.kbuf := rfl
@[simp] theorem writeCell_khead (r c : Nat) (ch attr : Byte) : (writeCell r c ch attr s).khead = s.khead := rfl
@[simp] theorem writeCell_ktail (r c : Nat) (ch attr : Byte) : (writeCell r c ch attr s).ktail = s.ktail := rfl
@[simp] theorem writeCell_kcount (r c : Nat) (ch attr : Byte) : (writeCell r c ch attr s).kcount = s.kcount := rfl
@[simp] theorem writeCell_decAug (r c : Nat) (ch attr : Byte) : (writeCell r c ch attr s).decAug = s.decAug := rfl
@[simp] theorem writeCell_row (r c : Nat) (ch attr : Byte) : (writeCell r c ch attr s).row = s.row := rfl
@[simp] theorem writeCell_col (r c : Nat) (ch attr : Byte) : (writeCell r c ch attr s).col = s.col := rfl
@[simp] theorem writeCell_color (r c : Nat) (ch attr : Byte) : (writeCell r c ch attr s).color = s.color := rfl
@[simp] theorem writeCell_hidden (r c : Nat) (ch attr : Byte) : (writeCell r c ch attr s).hidden = s.hidden := rfl
@[simp] theorem writeCell_hwcur (r c : Nat) (ch attr : Byte) : (writeCell r c ch attr s).hwcur = s.hwcur := rfl
@[simp] theorem writeCell_grid (r c : Nat) (ch attr : Byte) : (writeCell r c ch attr s).grid = Store.write Config.gridDraw (Store.write Config.gridDraw s.grid (cellAddr s.cfg r c) ch) (cellAddr s.cfg r c + 1) attr := rfl
@[simp] theorem writeCell_out (r c : Nat) (ch attr : Byte) : (writeCell r c ch attr s).out = s.out := rfl
@[simp] theorem writeCell_fault (r c : Nat) (ch attr : Byte) : (writeCell r c ch attr s).fault = s.fault := rfl

/-! ### `kbufWrite` -/

@[simp] theorem kbufWrite_cfg (i : Nat) (v : Byte) : (kbufWrite i v s).cfg = s.cfg := rfl
@[simp] theorem kbufWrite_client (i : Nat) (v : Byte) : (kbufWrite i v s).client = s.client := rfl
@[simp] theorem kbufWrite_inbox (i : Nat) (v : Byte) : (kbufWrite i v s).inbox = s.inbox := rfl
@[simp] theorem kbufWrite_busData (i : Nat) (v : Byte) : (kbufWrite i v s).busData = s.busData := rfl
@[simp] theorem kbufWrite_draws (i : Nat) (v : Byte) : (kbufWrite i v s).draws = s.draws := rfl
@[simp] theorem kbufWrite_a0 (i : Nat) (v : Byte) : (kbufWrite i v s).a0 = s.a0 := rfl
@[simp] theorem kbufWrite_a1 (i : Nat) (v : Byte) : (kbufWrite i v s).a1 = s.a1 := rfl
@[simp] theorem kbufWrite_a2 (i : Nat) (v : Byte) : (kbufWrite i v s).a2 = s.a2 := rfl
@[simp] theorem kbufWrite_a3 (i : Nat) (v : Byte) : (kbufWrite i v s).a3 = s.a3 := rfl
@[simp] theorem kbufWrite_r0 (i : Nat) (v : Byte) : (kbufWrite i v s).r0 = s.r0 := rfl
@[simp] theorem kbufWrite_r1 (i : Nat) (v : Byte) : (kbufWrite i v s).r1 = s.r1 := rfl
@[simp] theorem kbufWrite_ie (i : Nat) (v : Byte) : (kbufWrite i v s).ie = s.ie := rfl
@[simp] theorem kbufWrite_idtLoaded (i : Nat) (v : Byte) : (kbufWrite i v s).idtLoaded = s.idtLoaded := rfl
@[simp] theorem kbufWrite_idtr (i : Nat) (v : Byte) : (kbufWrite i v s).idtr = s.idtr := rfl
@[simp] theorem kbufWrite_gates (i : Nat) (v : Byte) : (kbufWrite i v s).gates = s.gates := rfl
@[simp] theorem kbufWrite_ticks (i : Nat) (v : Byte) : (kbufWrite i v s).ticks = s.ticks := rfl
@[simp] theorem kbufWrite_cb (i : Nat) (v : Byte) : (kbufWrite i v s).cb = s.cb := rfl
@[simp] theorem kbufWrite_timerArmed (i : Nat) (v : Byte) : (kbufWrite i v s).timerArmed = s.timerArmed := rfl
@[simp] theorem kbufWrite_kbuf (i : Nat) (v : Byte) : (kbufWrite i v s).kbuf = Store.write Config.kbufDraw s.kbuf i v := rfl
@[simp] theorem kbufWrite_khead (i : Nat) (v : Byte) : (kbufWrite i v s).khead = s.khead := rfl
@[simp] theorem kbufWrite_ktail (i : Nat) (v : Byte) : (kbufWrite i v s).ktail = s.ktail := rfl
@[simp] theorem kbufWrite_kcount (i : Nat) (v : Byte) : (kbufWrite i v s).kcount = s.kcount := rfl
@[simp] theorem kbufWrite_decAug (i : Nat) (v : Byte) : (kbufWrite i v s).decAug = s.decAug := rfl
@[simp] theorem kbufWrite_row (i : Nat) (v : Byte) : (kbufWrite i v s).row = s.row := rfl
@[simp] theorem kbufWrite_col (i : Nat) (v : Byte) : (kbufWrite i v s).col = s.col := rfl
@[simp] theorem kbufWrite_color (i : Nat) (v : Byte) : (kbufWrite i v s).color = s.color := rfl
@[simp] theorem kbufWrite_hidden (i : Nat) (v : Byte) : (kbufWrite i v s).hidden = s.hidden := rfl
@[simp] theorem kbufWrite_hwcur (i : Nat) (v : Byte) : (kbufWrite i v s).hwcur = s.hwcur := rfl
@[simp] theorem kbufWrite_grid (i : Nat) (v : Byte) : (kbufWrite i v s).grid = s.grid := rfl
@[simp] theorem kbufWrite_out (i : Nat) (v : Byte) : (kbufWrite i v s).out = s.out := rfl
@[simp] theorem kbufWrite_fault (i : Nat) (v : Byte) : (kbufWrite i v s).fault = s.fault := rfl

/-! ### `gateWrite` -/

@[simp] theorem gateWrite_cfg (v : Nat) (d : DWord) : (gateWrite v d s).cfg = s.cfg := rfl
@[simp] theorem gateWrite_client (v : Nat) (d : DWord) : (gateWrite v d s).client = s.client := rfl
@[simp] theorem gateWrite_inbox (v : Nat) (d : DWord) : (gateWrite v d s).inbox = s.inbox := rfl
@[simp] theorem gateWrite_busData (v : Nat) (d : DWord) : (gateWrite v d s).busData = s.busData := rfl
@[simp] theorem gateWrite_draws (v : Nat) (d : DWord) : (gateWrite v d s).draws = s.draws := rfl
@[simp] theorem gateWrite_a0 (v : Nat) (d : DWord) : (gateWrite v d s).a0 = s.a0 := rfl
@[simp] theorem gateWrite_a1 (v : Nat) (d : DWord) : (gateWrite v d s).a1 = s.a1 := rfl
@[simp] theorem gateWrite_a2 (v : Nat) (d : DWord) : (gateWrite v d s).a2 = s.a2 := rfl
@[simp] theorem gateWrite_a3 (v : Nat) (d : DWord) : (gateWrite v d s).a3 = s.a3 := rfl
@[simp] theorem gateWrite_r0 (v : Nat) (d : DWord) : (gateWrite v d s).r0 = s.r0 := rfl
@[simp] theorem gateWrite_r1 (v : Nat) (d : DWord) : (gateWrite v d s).r1 = s.r1 := rfl
@[simp] theorem gateWrite_ie (v : Nat) (d : DWord) : (gateWrite v d s).ie = s.ie := rfl
@[simp] theorem gateWrite_idtLoaded (v : Nat) (d : DWord) : (gateWrite v d s).idtLoaded = s.idtLoaded := rfl
@[simp] theorem gateWrite_idtr (v : Nat) (d : DWord) : (gateWrite v d s).idtr = s.idtr := rfl
@[simp] theorem gateWrite_gates (v : Nat) (d : DWord) : (gateWrite v d s).gates = Store.write gateDraw s.gates v d := rfl
@[simp] theorem gateWrite_ticks (v : Nat) (d : DWord) : (gateWrite v d s).ticks = s.ticks := rfl
@[simp] theorem gateWrite_cb (v : Nat) (d : DWord) : (gateWrite v d s).cb = s.cb := rfl
@[simp] theorem gateWrite_timerArmed (v : Nat) (d : DWord) : (gateWrite v d s).timerArmed = s.timerArmed := rfl
@[simp] theorem gateWrite_kbuf (v : Nat) (d : DWord) : (gateWrite v d s).kbuf = s.kbuf := rfl
@[simp] theorem gateWrite_khead (v : Nat) (d : DWord) : (gateWrite v d s).khead = s.khead := rfl
@[simp] theorem gateWrite_ktail (v : Nat) (d : DWord) : (gateWrite v d s).ktail = s.ktail := rfl
@[simp] theorem gateWrite_kcount (v : Nat) (d : DWord) : (gateWrite v d s).kcount = s.kcount := rfl
@[simp] theorem gateWrite_decAug (v : Nat) (d : DWord) : (gateWrite v d s).decAug = s.decAug := rfl
@[simp] theorem gateWrite_row (v : Nat) (d : DWord) : (gateWrite v d s).row = s.row := rfl
@[simp] theorem gateWrite_col (v : Nat) (d : DWord) : (gateWrite v d s).col = s.col := rfl
@[simp] theorem gateWrite_color (v : Nat) (d : DWord) : (gateWrite v d s).color = s.color := rfl
@[simp] theorem gateWrite_hidden (v : Nat) (d : DWord) : (gateWrite v d s).hidden = s.hidden := rfl
@[simp] theorem gateWrite_hwcur (v : Nat) (d : DWord) : (gateWrite v d s).hwcur = s.hwcur := rfl
@[simp] theorem gateWrite_grid (v : Nat) (d : DWord) : (gateWrite v d s).grid = s.grid := rfl
@[simp] theorem gateWrite_out (v : Nat) (d : DWord) : (gateWrite v d s).out = s.out := rfl
@[simp] theorem gateWrite_fault (v : Nat) (d : DWord) : (gateWrite v d s).fault = s.fault := rfl

/-! ### `tick` -/

@[simp] theorem tick_cfg : (tick s).cfg = s.cfg := rfl
@[simp] theorem tick_client : (tick s).client = s.client := rfl
@[simp] theorem tick_inbox : (tick s).inbox = s.inbox := rfl
@[simp] theorem tick_busData : (tick s).busData = s.busData := rfl
@[simp] theorem tick_draws : (tick s).draws = s.draws := rfl
@[simp] theorem tick_a0 : (tick s).a0 = s.a0 := rfl
@[simp] theorem tick_a1 : (tick s).a1 = s.a1 := rfl
@[simp] theorem tick_a2 : (tick s).a2 = s.a2 := rfl
@[simp] theorem tick_a3 : (tick s).a3 = s.a3 := rfl
@[simp] theorem tick_r0 : (tick s).r0 = s.r0 := rfl
@[simp] theorem tick_r1 : (tick s).r1 = s.r1 := rfl
@[simp] theorem tick_ie : (tick s).ie = s.ie := rfl
@[simp] theorem tick_idtLoaded : (tick s).idtLoaded = s.idtLoaded := rfl
@[simp] theorem tick_idtr : (tick s).idtr = s.idtr := rfl
@[simp] theorem tick_gates : (tick s).gates = s.gates := rfl
@[simp] theorem tick_ticks : (tick s).ticks = nextTick s.cfg s.ticks := rfl
@[simp] theorem tick_cb : (tick s).cb = s.cb := rfl
@[simp] theorem tick_timerArmed : (tick s).timerArmed = s.timerArmed := rfl
@[simp] theorem tick_kbuf : (tick s).kbuf = s.kbuf := rfl
@[simp] theorem tick_khead : (tick s).khead = s.khead := rfl
@[simp] theorem tick_ktail : (tick s).ktail = s.ktail := rfl
@[simp] theorem tick_kcount : (tick s).kcount = s.kcount := rfl
@[simp] theorem tick_decAug : (tick s).decAug = s.decAug := rfl
@[simp] theorem tick_row : (tick s).row = s.row := rfl
@[simp] theorem tick_col : (tick s).col = s.col := rfl
@[simp] theorem tick_color : (tick s).color = s.color := rfl
@[simp] theorem tick_hidden : (tick s).hidden = s.hidden := rfl
@[simp] theorem tick_hwcur : (tick s).hwcur = s.hwcur := rfl
@[simp] theorem tick_grid : (tick s).grid = s.grid := rfl
@[simp] theorem tick_out : (tick s).out = s.out := rfl
@[simp] theorem tick_fault : (tick s).fault = s.fault := rfl

/-! ### `syncHw` -/

@[simp] theorem syncHw_cfg : (syncHw s).cfg = s.cfg := rfl
@[simp] theorem syncHw_client : (syncHw s).client = s.client := rfl
@[simp] theorem syncHw_inbox : (syncHw s).inbox = s.inbox := rfl
@[simp] theorem syncHw_busData : (syncHw s).busData = s.busData := rfl
@[simp] theorem syncHw_draws : (syncHw s).draws = s.draws := rfl
@[simp] theorem syncHw_a0 : (syncHw s).a0 = s.a0 := rfl
@[simp] theorem syncHw_a1 : (syncHw s).a1 = s.a1 := rfl
@[simp] theorem syncHw_a2 : (syncHw s).a2 = s.a2 := rfl
@[simp] theorem syncHw_a3 : (syncHw s).a3 = s.a3 := rfl
@[simp] theorem syncHw_r0 : (syncHw s).r0 = s.r0 := rfl
@[simp] theorem syncHw_r1 : (syncHw s).r1 = s.r1 := rfl
@[simp] theorem syncHw_ie : (syncHw s).ie = s.ie := rfl
@[simp] theorem syncHw_idtLoaded : (syncHw s).idtLoaded = s.idtLoaded := rfl
@[simp] theorem syncHw_idtr : (syncHw s).idtr = s.idtr := rfl
@[simp] theorem syncHw_gates : (syncHw s).gates = s.gates := rfl
@[simp] theorem syncHw_ticks : (syncHw s).ticks = s.ticks := rfl
@[simp] theorem syncHw_cb : (syncHw s).cb = s.cb := rfl
@[simp] theorem syncHw_timerArmed : (syncHw s).timerArmed = s.timerArmed := rfl
@[simp] theorem syncHw_kbuf : (syncHw s).kbuf = s.kbuf := rfl
@[simp] theorem syncHw_khead : (syncHw s).khead = s.khead := rfl
@[simp] theorem syncHw_ktail : (syncHw s).ktail = s.ktail := rfl
@[simp] theorem syncHw_kcount : (syncHw s).kcount = s.kcount := rfl
@[simp] theorem syncHw_decAug : (syncHw s).decAug = s.decAug := rfl
@[simp] theorem syncHw_row : (syncHw s).row = s.row := rfl
@[simp] theorem syncHw_col : (syncHw s).col = s.col := rfl
@[simp] theorem syncHw_color : (syncHw s).color = s.color := rfl
@[simp] theorem syncHw_hidden : (syncHw s).hidden = s.hidden := rfl
@[simp] theorem syncHw_hwcur : (syncHw s).hwcur = BitVec.ofNat 16 (if s.hidden then hidePos s.cfg else linearPos s) := rfl
@[simp] theorem syncHw_grid : (syncHw s).grid = s.grid := rfl
@[simp] theorem syncHw_out : (syncHw s).out = s.out := rfl
@[simp] theorem syncHw_fault : (syncHw s).fault = s.fault := rfl

/-! ### `present` -/

@[simp] theorem present_cfg (x : Input) : (present x s).cfg = s.cfg := rfl
@[simp] theorem present_client (x : Input) : (present x s).client = s.client := rfl
@[simp] theorem present_inbox (x : Input) : (present x s).inbox = x :: s.inbox := rfl
@[simp] theorem present_busData (x : Input) : (present x s).busData = s.busData := rfl
@[simp] theorem present_draws (x : Input) : (present x s).draws = s.draws := rfl
@[simp] theorem present_a0 (x : Input) : (present x s).a0 = s.a0 := rfl
@[simp] theorem present_a1 (x : Input) : (present x s).a1 = s.a1 := rfl
@[simp] theorem present_a2 (x : Input) : (present x s).a2 = s.a2 := rfl
@[simp] theorem present_a3 (x : Input) : (present x s).a3 = s.a3 := rfl
@[simp] theorem present_r0 (x : Input) : (present x s).r0 = s.r0 := rfl
@[simp] theorem present_r1 (x : Input) : (present x s).r1 = s.r1 := rfl
@[simp] theorem present_ie (x : Input) : (present x s).ie = s.ie := rfl
@[simp] theorem present_idtLoaded (x : Input) : (present x s).idtLoaded = s.idtLoaded := rfl
@[simp] theorem present_idtr (x : Input) : (present x s).idtr = s.idtr := rfl
@[simp] theorem present_gates (x : Input) : (present x s).gates = s.gates := rfl
@[simp] theorem present_ticks (x : Input) : (present x s).ticks = s.ticks := rfl
@[simp] theorem present_cb (x : Input) : (present x s).cb = s.cb := rfl
@[simp] theorem present_timerArmed (x : Input) : (present x s).timerArmed = s.timerArmed := rfl
@[simp] theorem present_kbuf (x : Input) : (present x s).kbuf = s.kbuf := rfl
@[simp] theorem present_khead (x : Input) : (present x s).khead = s.khead := rfl
@[simp] theorem present_ktail (x : Input) : (present x s).ktail = s.ktail := rfl
@[simp] theorem present_kcount (x : Input) : (present x s).kcount = s.kcount := rfl
@[simp] theorem present_decAug (x : Input) : (present x s).decAug = s.decAug := rfl
@[simp] theorem present_row (x : Input) : (present x s).row = s.row := rfl
@[simp] theorem present_col (x : Input) : (present x s).col = s.col := rfl
@[simp] theorem present_color (x : Input) : (present x s).color = s.color := rfl
@[simp] theorem present_hidden (x : Input) : (present x s).hidden = s.hidden := rfl
@[simp] theorem present_hwcur (x : Input) : (present x s).hwcur = s.hwcur := rfl
@[simp] theorem present_grid (x : Input) : (present x s).grid = s.grid := rfl
@[simp] theorem present_out (x : Input) : (present x s).out = s.out := rfl
@[simp] theorem present_fault (x : Input) : (present x s).fault = s.fault := rfl

end Sys2Proof.Machine
end

