-- ==== Sys2Proof/Laws/Guard.lean ====
section
/-! SUPPORT. What the guard of every step can do, and what a ready state gives a proof. -/

namespace Sys2Proof.Machine

/-- The parts of `ready`. -/
theorem ready_iff {s : State} :
    ready s = true ↔ s.fault = none ∧ configOk s.cfg = true ∧ inRange s = true ∧ gatesOk s = true := by
  simp [ready, and_assoc]

/-- In a ready state the guard lets the step through. -/
theorem whenReady_ready {s : State} (h : ready s = true) (r : Result) : whenReady s r = r := by
  obtain ⟨hf, hc, hr, hg⟩ := ready_iff.mp h
  simp [whenReady, hf, hc, hr, hg]

/-- In a faulted state the guard answers the fault. -/
theorem whenReady_faulted {s : State} {f : Fault} (h : s.fault = some f) (r : Result) : whenReady s r = .fault f := by
  simp [whenReady, h]

/-- A next state comes out of the guard only in a ready state. -/
theorem whenReady_next {s t : State} {r : Result} (h : whenReady s r = .next t) : ready s = true ∧ r = .next t := by
  unfold whenReady at h
  split at h
  · cases h
  · rename_i hf
    by_cases hc : configOk s.cfg = true
    · by_cases hr : inRange s = true
      · by_cases hg : gatesOk s = true
        · simp only [hc, hr, hg, if_true] at h
          exact ⟨ready_iff.mpr ⟨hf, hc, hr, hg⟩, h⟩
        · simp [hc, hr, hg] at h
      · simp [hc, hr] at h
    · simp [hc] at h

/-- The constraints of a well-formed configuration (spec/00_scope.md R6), as propositions. -/
structure ConfigFacts (cfg : Config) : Prop where
  rows_pos : 1 ≤ cfg.rows
  cols_pos : 1 ≤ cfg.cols
  grid_small : cfg.rows * cfg.cols ≤ 65535
  base_even : cfg.gridBase % 2 = 0
  grid_fits : cfg.gridBase + 2 * (cfg.rows * cfg.cols) ≤ 2 ^ 32
  cap_pos : 1 ≤ cfg.kbufCap
  cap_small : cfg.kbufCap ≤ 2 ^ 31 - 1
  timer_in : cfg.vecTimer.toNat < cfg.nvec
  kbd_in : cfg.vecKbd.toNat < cfg.nvec
  nvec_small : cfg.nvec ≤ 256
  vec_ne : cfg.vecTimer ≠ cfg.vecKbd
  idt_aligned : cfg.idtBase.toNat % 8 = 0
  width_pos : 1 ≤ cfg.tickWidth
  divisor_pos : 1 ≤ cfg.timerDivisor.toNat
  cmd_aligned : cfg.cmdBase.toNat % 4 = 0
  interrupt_gates : cfg.gateType = .interrupt

theorem configFacts {cfg : Config} (h : configOk cfg = true) : ConfigFacts cfg := by
  simp only [configOk, Bool.and_eq_true, decide_eq_true_eq, beq_iff_eq, bne_iff_ne] at h
  obtain ⟨⟨⟨⟨⟨⟨⟨⟨⟨⟨⟨⟨⟨⟨⟨h1, h2⟩, h3⟩, h4⟩, h5⟩, h6⟩, h7⟩, h8⟩, h9⟩, h10⟩, h11⟩, h12⟩, h13⟩, h14⟩, h15⟩, h16⟩ := h
  exact ⟨h1, h2, h3, h4, h5, h6, h7, h8, h9, h10, h11, h12, h13, h14, h15, h16⟩

/-- The two vectors also differ as table indexes. -/
theorem ConfigFacts.vec_ne_nat {cfg : Config} (h : ConfigFacts cfg) : cfg.vecTimer.toNat ≠ cfg.vecKbd.toNat :=
  fun e => h.vec_ne (BitVec.eq_of_toNat_eq e)

/-- The types of spec/10_state.md R20, as propositions. -/
theorem inRange_iff {s : State} :
    inRange s = true ↔ s.row < s.cfg.rows ∧ s.col < s.cfg.cols ∧ s.khead < s.cfg.kbufCap ∧ s.ktail < s.cfg.kbufCap
      ∧ s.kcount ≤ s.cfg.kbufCap ∧ s.ticks < 2 ^ s.cfg.tickWidth ∧ ∀ e ∈ s.gates, e.1 < s.cfg.nvec := by
  simp [inRange, and_assoc]

theorem gatesOk_iff {s : State} : gatesOk s = true ↔ ∀ e ∈ s.gates, gateLegal e.2 = true := by
  simp [gatesOk]

/-- What a ready state gives. -/
theorem ready_facts {s : State} (h : ready s = true) :
    s.fault = none ∧ ConfigFacts s.cfg ∧ s.row < s.cfg.rows ∧ s.col < s.cfg.cols ∧ s.khead < s.cfg.kbufCap
      ∧ s.ktail < s.cfg.kbufCap ∧ s.kcount ≤ s.cfg.kbufCap ∧ s.ticks < 2 ^ s.cfg.tickWidth
      ∧ (∀ e ∈ s.gates, e.1 < s.cfg.nvec) ∧ ∀ e ∈ s.gates, gateLegal e.2 = true := by
  obtain ⟨hf, hc, hr, hg⟩ := ready_iff.mp h
  obtain ⟨h1, h2, h3, h4, h5, h6, h7⟩ := inRange_iff.mp hr
  exact ⟨hf, configFacts hc, h1, h2, h3, h4, h5, h6, h7, gatesOk_iff.mp hg⟩

theorem ready_cursor {s : State} (h : ready s = true) : CursorInv s :=
  ⟨(ready_facts h).2.2.1, (ready_facts h).2.2.2.1⟩

theorem ready_config {s : State} (h : ready s = true) : ConfigFacts s.cfg := (ready_facts h).2.1

/-- A state that agrees with a ready one on what `ready` reads is ready. -/
theorem ready_congr {s t : State} (h : ready s = true) (hf : t.fault = none) (hc : t.cfg = s.cfg)
    (hrow : t.row < s.cfg.rows) (hcol : t.col < s.cfg.cols) (hkh : t.khead < s.cfg.kbufCap)
    (hkt : t.ktail < s.cfg.kbufCap) (hkc : t.kcount ≤ s.cfg.kbufCap) (ht : t.ticks < 2 ^ s.cfg.tickWidth)
    (hg : (∀ e ∈ t.gates, e.1 < s.cfg.nvec) ∧ ∀ e ∈ t.gates, gateLegal e.2 = true) : ready t = true := by
  obtain ⟨-, hcfg, -, -⟩ := ready_iff.mp h
  rw [ready_iff, inRange_iff, gatesOk_iff, hc]
  exact ⟨hf, hcfg, ⟨hrow, hcol, hkh, hkt, hkc, ht, hg.1⟩, hg.2⟩

/-! What leaves everything that `ready` reads leaves readiness. -/

@[simp] theorem ready_setR0 (v : Word) (s : State) : ready (setR0 v s) = ready s := rfl
@[simp] theorem ready_setR1 (v : Word) (s : State) : ready (setR1 v s) = ready s := rfl
@[simp] theorem ready_emit (e : OutEvent) (s : State) : ready (emit e s) = ready s := rfl
@[simp] theorem ready_setIe (b : Bool) (s : State) : ready (setIe b s) = ready s := rfl
@[simp] theorem ready_syncHw (s : State) : ready (syncHw s) = ready s := rfl
@[simp] theorem ready_setHidden (b : Bool) (s : State) : ready (setHidden b s) = ready s := rfl
@[simp] theorem ready_gridWrite (a : Nat) (v : Byte) (s : State) : ready (gridWrite a v s) = ready s := rfl
@[simp] theorem ready_setDecAug (b : Bool) (s : State) : ready (setDecAug b s) = ready s := rfl

end Sys2Proof.Machine
end

