-- ==== Sys2Proof/Laws/Store.lean ====
section
/-! SUPPORT. The laws of the canonical store and of the ascending loop: what a read after a write gives, that every
write keeps the canonical form, that stores in canonical form with the same reads are equal, and the loop rule. -/

namespace Sys2Proof.Machine

variable {α : Type}

/-! ### Reads -/

@[simp] theorem Store.read_nil (dflt : Nat → α) (a : Nat) : Store.read dflt [] a = dflt a := rfl

theorem Store.read_cons (dflt : Nat → α) (e : Nat × α) (m : Store α) (a : Nat) :
    Store.read dflt (e :: m) a = if a = e.1 then e.2 else Store.read dflt m a := by
  obtain ⟨k, w⟩ := e
  rfl

/-- A key no entry carries reads as unlisted. -/
theorem Store.read_unlisted (dflt : Nat → α) (m : Store α) (a : Nat) (h : ∀ e ∈ m, e.1 ≠ a) :
    Store.read dflt m a = dflt a := by
  induction m with
  | nil => rfl
  | cons e m ih =>
    rw [Store.read_cons, if_neg (fun h' => h e (by simp) h'.symm)]
    exact ih fun e' he' => h e' (by simp [he'])

/-- A read depends on the entries under its own key only. -/
theorem Store.read_erase_other (dflt : Nat → α) (m : Store α) {a b : Nat} (h : b ≠ a) :
    Store.read dflt (Store.erase a m) b = Store.read dflt m b := by
  induction m with
  | nil => rfl
  | cons e m ih =>
    unfold Store.erase at ih ⊢
    by_cases hk : e.1 = a
    · rw [List.filter_cons_of_neg (by simp [hk]), ih, Store.read_cons, if_neg (by omega)]
    · rw [List.filter_cons_of_pos (by simp [hk]), Store.read_cons, Store.read_cons, ih]

theorem Store.erase_no_key (a : Nat) (m : Store α) : ∀ e ∈ Store.erase a m, e.1 ≠ a := by
  intro e he
  simpa [Store.erase] using (List.mem_filter.mp he).2

theorem Store.read_insert (dflt : Nat → α) (m : Store α) (a b : Nat) (v : α) (h : ∀ e ∈ m, e.1 ≠ a) :
    Store.read dflt (Store.insert a v m) b = if b = a then v else Store.read dflt m b := by
  induction m with
  | nil => rfl
  | cons e m ih =>
    obtain ⟨k, w⟩ := e
    have hk : k ≠ a := h (k, w) (by simp)
    have ih' := ih fun e he => h e (by simp [he])
    simp only [Store.insert]
    split
    · rw [Store.read_cons]
    · rw [Store.read_cons, Store.read_cons, ih']
      by_cases hb : b = a
      · subst hb
        simp [Ne.symm hk]
      · simp [hb]

/-- READ AFTER WRITE: the written key reads the written value, every other key as before. -/
theorem Store.read_write [DecidableEq α] (dflt : Nat → α) (m : Store α) (a b : Nat) (v : α) :
    Store.read dflt (Store.write dflt m a v) b = if b = a then v else Store.read dflt m b := by
  unfold Store.write
  by_cases hv : v = dflt a
  · rw [if_pos hv]
    by_cases hb : b = a
    · subst hb
      rw [if_pos rfl, Store.read_unlisted _ _ _ (Store.erase_no_key b m), hv]
    · rw [if_neg hb, Store.read_erase_other dflt m hb]
  · rw [if_neg hv, Store.read_insert _ _ _ _ _ (Store.erase_no_key a m)]
    by_cases hb : b = a
    · rw [if_pos hb, if_pos hb]
    · rw [if_neg hb, if_neg hb, Store.read_erase_other dflt m hb]

theorem Store.read_write_same [DecidableEq α] (dflt : Nat → α) (m : Store α) (a : Nat) (v : α) :
    Store.read dflt (Store.write dflt m a v) a = v := by
  rw [Store.read_write, if_pos rfl]

theorem Store.read_write_other [DecidableEq α] (dflt : Nat → α) (m : Store α) {a b : Nat} (v : α) (h : b ≠ a) :
    Store.read dflt (Store.write dflt m a v) b = Store.read dflt m b := by
  rw [Store.read_write, if_neg h]

/-! ### The canonical form -/

theorem Store.mem_insert {a : Nat} {v : α} {m : Store α} {e : Nat × α} :
    e ∈ Store.insert a v m ↔ e = (a, v) ∨ e ∈ m := by
  induction m with
  | nil => simp [Store.insert]
  | cons x m ih =>
    obtain ⟨k, w⟩ := x
    simp only [Store.insert]
    split
    · simp
    · simp only [List.mem_cons, ih]
      tauto

theorem Store.pairwise_insert {a : Nat} {v : α} {m : Store α} (h : m.Pairwise fun p q => p.1 < q.1)
    (ha : ∀ e ∈ m, e.1 ≠ a) : (Store.insert a v m).Pairwise fun p q => p.1 < q.1 := by
  induction m with
  | nil => simp [Store.insert]
  | cons x m ih =>
    obtain ⟨k, w⟩ := x
    rw [List.pairwise_cons] at h
    have hk : k ≠ a := ha (k, w) (by simp)
    simp only [Store.insert]
    split
    · rename_i hlt
      refine List.pairwise_cons.mpr ⟨fun e he => ?_, List.pairwise_cons.mpr h⟩
      rcases List.mem_cons.mp he with rfl | he
      · exact hlt
      · exact Nat.lt_trans hlt (h.1 e he)
    · refine List.pairwise_cons.mpr ⟨fun e he => ?_, ih h.2 fun e he => ha e (by simp [he])⟩
      rcases Store.mem_insert.mp he with rfl | he
      · simp only
        omega
      · exact h.1 e he

/-- EVERY WRITE KEEPS THE CANONICAL FORM. -/
theorem Store.wf_write [DecidableEq α] {dflt : Nat → α} {m : Store α} (a : Nat) (v : α) (h : Store.wf dflt m) :
    Store.wf dflt (Store.write dflt m a v) := by
  have he : Store.wf dflt (Store.erase a m) :=
    ⟨h.1.filter _, fun e he => h.2 e (List.mem_of_mem_filter he)⟩
  unfold Store.write
  split
  · exact he
  · rename_i hv
    refine ⟨Store.pairwise_insert he.1 (Store.erase_no_key a m), fun e hm => ?_⟩
    rcases Store.mem_insert.mp hm with rfl | hm
    · exact hv
    · exact he.2 e hm

/-- A write keeps every property of keys that holds of the entries and of the written key. -/
theorem Store.forall_write [DecidableEq α] {dflt : Nat → α} {m : Store α} {a : Nat} {v : α} {P : Nat × α → Prop}
    (h : ∀ e ∈ m, P e) (ha : P (a, v)) : ∀ e ∈ Store.write dflt m a v, P e := by
  intro e he
  unfold Store.write at he
  split at he
  · exact h e (List.mem_of_mem_filter he)
  · rcases Store.mem_insert.mp he with rfl | he
    · exact ha
    · exact h e (List.mem_of_mem_filter he)

theorem Store.wf_nil [DecidableEq α] (dflt : Nat → α) : Store.wf dflt [] := by
  simp [Store.wf]

theorem Store.read_of_mem {dflt : Nat → α} {m : Store α} (h : m.Pairwise fun p q => p.1 < q.1) {e : Nat × α}
    (he : e ∈ m) : Store.read dflt m e.1 = e.2 := by
  induction m with
  | nil => simp at he
  | cons x m ih =>
    rw [List.pairwise_cons] at h
    rw [Store.read_cons]
    rcases List.mem_cons.mp he with rfl | he
    · simp
    · rw [if_neg (Nat.ne_of_gt (h.1 e he)), ih h.2 he]

/-! ### The loop -/

@[simp] theorem forUp_zero (f : Nat → α → α) (x : α) : forUp 0 f x = x := rfl

theorem forUp_succ (n : Nat) (f : Nat → α → α) (x : α) : forUp (n + 1) f x = f n (forUp n f x) := rfl

/-- The loop rule: what holds before the first pass and is carried from pass to pass holds at the end. -/
theorem forUp_induct {n : Nat} {f : Nat → α → α} {x : α} (P : Nat → α → Prop) (h0 : P 0 x)
    (hs : ∀ i y, i < n → P i y → P (i + 1) (f i y)) : P n (forUp n f x) := by
  induction n with
  | zero => exact h0
  | succ n ih =>
    exact hs n _ (Nat.lt_succ_self n) (ih fun i y hi => hs i y (Nat.lt_succ_of_lt hi))

/-- A map that commutes with every pass commutes with the loop. -/
theorem forUp_comm {n : Nat} {f : Nat → α → α} {g : α → α} (h : ∀ i y, f i (g y) = g (f i y)) (x : α) :
    forUp n f (g x) = g (forUp n f x) := by
  induction n with
  | zero => rfl
  | succ n ih => rw [forUp_succ, forUp_succ, ih, h]

end Sys2Proof.Machine
end

