-- ==== Sys2Proof/Laws/Console.lean ====
section
/-! SUPPORT. The laws of the console's micro-operations: what a cell reads as after each, that only the screen changes,
that no byte outside the grid is touched, and that the cursor bounds hold. -/

namespace Sys2Proof.Machine

/-! ### Addresses -/

/-- Two cells of the grid have the same linear index only if they are the same cell. -/
theorem linear_inj {cols r c r' c' : Nat} (hc : c < cols) (hc' : c' < cols) :
    r' * cols + c' = r * cols + c ↔ r' = r ∧ c' = c := by
  constructor
  · intro h
    have h1 : (r' * cols + c') / cols = (r * cols + c) / cols := by rw [h]
    have h2 : (r' * cols + c') % cols = (r * cols + c) % cols := by rw [h]
    have hpos : 0 < cols := by omega
    rw [Nat.mul_comm r', Nat.mul_comm r, Nat.mul_add_div hpos, Nat.mul_add_div hpos,
      Nat.div_eq_of_lt hc, Nat.div_eq_of_lt hc'] at h1
    rw [Nat.mul_comm r', Nat.mul_comm r, Nat.mul_add_mod, Nat.mul_add_mod, Nat.mod_eq_of_lt hc,
      Nat.mod_eq_of_lt hc'] at h2
    exact ⟨by omega, h2⟩
  · rintro ⟨rfl, rfl⟩
    rfl

/-- A cell of the grid has a linear index below `ROWS * COLS`. -/
theorem linear_lt {rows cols r c : Nat} (hr : r < rows) (hc : c < cols) : r * cols + c < rows * cols := by
  calc r * cols + c < r * cols + cols := by omega
    _ = (r + 1) * cols := by ring
    _ ≤ rows * cols := Nat.mul_le_mul_right _ hr

/-- Both bytes of a cell of the grid lie in the GRID space. -/
theorem cellAddr_inGrid {cfg : Config} {r c : Nat} (hr : r < cfg.rows) (hc : c < cfg.cols) :
    InGridSpace cfg (cellAddr cfg r c) ∧ InGridSpace cfg (cellAddr cfg r c + 1) := by
  have := linear_lt hr hc
  unfold cellAddr InGridSpace
  omega

/-- Cells do not overlap. -/
theorem cellAddr_eq {cfg : Config} {r c r' c' : Nat} (hc : c < cfg.cols) (hc' : c' < cfg.cols) :
    cellAddr cfg r' c' = cellAddr cfg r c ↔ r' = r ∧ c' = c := by
  rw [← linear_inj hc hc']
  unfold cellAddr
  omega

theorem cellAddr_ne_succ (cfg : Config) (r c r' c' : Nat) : cellAddr cfg r' c' ≠ cellAddr cfg r c + 1 := by
  unfold cellAddr
  omega

/-! ### One byte, one cell -/

theorem gridRead_gridWrite (a b : Nat) (v : Byte) (s : State) :
    gridRead (gridWrite a v s) b = if b = a then v else gridRead s b :=
  Store.read_write Config.gridDraw s.grid a b v

/-- What a GRID byte reads as after one cell write. -/
theorem gridRead_writeCell (r c : Nat) (ch attr : Byte) (s : State) (a : Nat) :
    gridRead (writeCell r c ch attr s) a =
      if a = cellAddr s.cfg r c + 1 then attr else if a = cellAddr s.cfg r c then ch else gridRead s a := by
  unfold writeCell
  rw [gridRead_gridWrite, gridRead_gridWrite]

/-- What a cell reads as after one cell write. -/
theorem cell_writeCell {r c r' c' : Nat} (ch attr : Byte) (s : State) (hc : c < s.cfg.cols) (hc' : c' < s.cfg.cols) :
    cell (writeCell r c ch attr s) r' c' = if r' = r ∧ c' = c then (ch, attr) else cell s r' c' := by
  unfold cell cellCh cellAt
  rw [gridRead_writeCell, gridRead_writeCell]
  have h1 : (writeCell r c ch attr s).cfg = s.cfg := rfl
  rw [h1, if_neg (cellAddr_ne_succ _ _ _ _ _)]
  by_cases h : r' = r ∧ c' = c
  · obtain ⟨rfl, rfl⟩ := h
    simp
  · have hne : cellAddr s.cfg r' c' ≠ cellAddr s.cfg r c := fun e => h ((cellAddr_eq hc hc').mp e)
    rw [if_neg hne, if_neg (by omega), if_neg (fun e => cellAddr_ne_succ s.cfg r' c' r c e.symm), if_neg h]

/-! ### Steps that change the grid only -/

/-- `t` is `s` after writes inside the grid: nothing else changes, bytes outside keep their value, the canonical form
is kept. -/
structure GridStep (s t : State) : Prop where
  rest : t = { s with grid := t.grid }
  outside : ∀ a, ¬ InGridSpace s.cfg a → gridRead t a = gridRead s a
  wf : Memory.wf Config.gridDraw s.grid → Memory.wf Config.gridDraw t.grid

theorem GridStep.refl (s : State) : GridStep s s := ⟨rfl, fun _ _ => rfl, id⟩

theorem GridStep.cfg {s t : State} (h : GridStep s t) : t.cfg = s.cfg := by rw [h.rest]
theorem GridStep.row {s t : State} (h : GridStep s t) : t.row = s.row := by rw [h.rest]
theorem GridStep.col {s t : State} (h : GridStep s t) : t.col = s.col := by rw [h.rest]
theorem GridStep.color {s t : State} (h : GridStep s t) : t.color = s.color := by rw [h.rest]

theorem GridStep.trans {s t u : State} (h : GridStep s t) (h' : GridStep t u) : GridStep s u where
  rest := by
    conv_lhs => rw [h'.rest, h.rest]
  outside a ha := by
    rw [h'.outside a (by rw [h.cfg]; exact ha), h.outside a ha]
  wf hw := h'.wf (h.wf hw)

theorem gridStep_gridWrite {s : State} {a : Nat} (v : Byte) (ha : InGridSpace s.cfg a) :
    GridStep s (gridWrite a v s) where
  rest := rfl
  outside b hb := by
    rw [gridRead_gridWrite, if_neg]
    rintro rfl
    exact hb ha
  wf hw := Store.wf_write a v hw

theorem gridStep_writeCell {s : State} {r c : Nat} (ch attr : Byte) (hr : r < s.cfg.rows) (hc : c < s.cfg.cols) :
    GridStep s (writeCell r c ch attr s) :=
  (gridStep_gridWrite ch (cellAddr_inGrid hr hc).1).trans (gridStep_gridWrite attr (cellAddr_inGrid hr hc).2)

/-- A loop of grid steps is one. -/
theorem gridStep_forUp {s : State} {n : Nat} {f : Nat → State → State}
    (h : ∀ i t, i < n → GridStep s t → GridStep t (f i t)) : GridStep s (forUp n f s) :=
  forUp_induct (fun _ t => GridStep s t) (GridStep.refl s) fun i t hi ht => ht.trans (h i t hi ht)

theorem gridStep_blankRow {s : State} {r : Nat} (hr : r < s.cfg.rows) : GridStep s (blankRow r s) :=
  gridStep_forUp fun _ t hi ht => gridStep_writeCell _ _ (by rw [ht.cfg]; exact hr) (by rw [ht.cfg]; exact hi)

theorem gridStep_copyRowUp {s : State} {r : Nat} (hr : r < s.cfg.rows) : GridStep s (copyRowUp r s) :=
  gridStep_forUp fun _ t hi ht => gridStep_writeCell _ _ (by rw [ht.cfg]; exact hr) (by rw [ht.cfg]; exact hi)

theorem gridStep_scrollGrid {s : State} (hr : 1 ≤ s.cfg.rows) : GridStep s (scrollGrid s) := by
  have h : GridStep s (forUp (s.cfg.rows - 1) copyRowUp s) :=
    gridStep_forUp fun i t hi ht => gridStep_copyRowUp (by rw [ht.cfg]; omega)
  exact h.trans (gridStep_blankRow (by rw [h.cfg]; omega))

theorem gridStep_clearGrid (s : State) : GridStep s (clearGrid s) :=
  gridStep_forUp fun _ t hi ht => gridStep_blankRow (by rw [ht.cfg]; exact hi)

/-! ### What the grid holds afterwards -/

/-- A blanked row is blank in the current colour; every other row is as before. -/
theorem cell_blankRow {s : State} {r r' c' : Nat} (hr : r < s.cfg.rows) (hc' : c' < s.cfg.cols) :
    cell (blankRow r s) r' c' = if r' = r then (s.cfg.blank, s.color) else cell s r' c' := by
  have h := forUp_induct (n := s.cfg.cols) (f := fun c => blankCell r c) (x := s)
    (fun n t => GridStep s t ∧ ∀ c < s.cfg.cols,
      cell t r' c = if r' = r ∧ c < n then (s.cfg.blank, s.color) else cell s r' c)
    ⟨GridStep.refl s, by simp⟩ fun i t hi ⟨ht, hcell⟩ => by
      have hic : i < t.cfg.cols := by rw [ht.cfg]; exact hi
      refine ⟨ht.trans (gridStep_writeCell _ _ (by rw [ht.cfg]; exact hr) hic), fun c hc => ?_⟩
      rw [blankCell, cell_writeCell _ _ _ hic (by rw [ht.cfg]; exact hc), hcell c hc, ht.color, ht.cfg]
      split_ifs <;> first | rfl | (exfalso; omega)
  have h2 := h.2 c' hc'
  rw [blankRow, h2]
  simp [hc']

/-- A row copied up holds the row below it; every other row is as before. -/
theorem cell_copyRowUp {s : State} {r r' c' : Nat} (hr : r < s.cfg.rows) (hc' : c' < s.cfg.cols) :
    cell (copyRowUp r s) r' c' = if r' = r then cell s (r + 1) c' else cell s r' c' := by
  have h := forUp_induct (n := s.cfg.cols) (f := fun c => copyCellUp r c) (x := s)
    (fun n t => GridStep s t ∧ ∀ q, ∀ c < s.cfg.cols,
      cell t q c = if q = r ∧ c < n then cell s (r + 1) c else cell s q c)
    ⟨GridStep.refl s, by simp⟩ fun i t hi ⟨ht, hcell⟩ => by
      have hic : i < t.cfg.cols := by rw [ht.cfg]; exact hi
      refine ⟨ht.trans (gridStep_writeCell _ _ (by rw [ht.cfg]; exact hr) hic), fun q c hc => ?_⟩
      have hsrc : (cellCh t (r + 1) i, cellAt t (r + 1) i) = cell s (r + 1) i := by
        have := hcell (r + 1) i hi
        rw [if_neg (by omega)] at this
        exact this
      rw [copyCellUp, cell_writeCell _ _ _ hic (by rw [ht.cfg]; exact hc), hsrc, hcell q c hc]
      by_cases h1 : q = r ∧ c = i
      · obtain ⟨rfl, rfl⟩ := h1
        simp
      · rw [if_neg h1]
        by_cases h2 : q = r ∧ c < i
        · rw [if_pos h2, if_pos ⟨h2.1, by omega⟩]
        · rw [if_neg h2, if_neg (by omega)]
  have h2 := h.2 r' c' hc'
  rw [copyRowUp, h2]
  simp [hc']

/-- `Scroll` as a simultaneous copy (spec/43_console.md R171): each row holds the row below it, the last row is blank in
the current colour. -/
theorem cell_scrollGrid {s : State} {r c : Nat} (hr : r < s.cfg.rows) (hc : c < s.cfg.cols) :
    cell (scrollGrid s) r c = if r + 1 < s.cfg.rows then cell s (r + 1) c else (s.cfg.blank, s.color) := by
  have h := forUp_induct (n := s.cfg.rows - 1) (f := copyRowUp) (x := s)
    (fun n t => GridStep s t ∧ ∀ q, ∀ c < s.cfg.cols, cell t q c = if q < n then cell s (q + 1) c else cell s q c)
    ⟨GridStep.refl s, by simp⟩ fun i t hi ⟨ht, hcell⟩ => by
      have hir : i < t.cfg.rows := by rw [ht.cfg]; omega
      refine ⟨ht.trans (gridStep_copyRowUp hir), fun q c hc => ?_⟩
      rw [cell_copyRowUp hir (by rw [ht.cfg]; exact hc), hcell (i + 1) c hc, hcell q c hc]
      by_cases h1 : q = i
      · subst h1
        simp
      · rw [if_neg h1]
        split_ifs <;> first | rfl | (exfalso; omega)
  obtain ⟨ht, hcell⟩ := h
  rw [scrollGrid, cell_blankRow (by rw [ht.cfg]; omega) (by rw [ht.cfg]; exact hc), hcell r c hc, ht.color, ht.cfg]
  split_ifs <;> first | rfl | (exfalso; omega)

/-- `CLEAR`'s loop leaves every cell blank in the current colour. -/
theorem cell_clearGrid {s : State} {r c : Nat} (hr : r < s.cfg.rows) (hc : c < s.cfg.cols) :
    cell (clearGrid s) r c = (s.cfg.blank, s.color) := by
  have h := forUp_induct (n := s.cfg.rows) (f := blankRow) (x := s)
    (fun n t => GridStep s t ∧ ∀ q < n, ∀ c < s.cfg.cols, cell t q c = (s.cfg.blank, s.color))
    ⟨GridStep.refl s, by simp⟩ fun i t hi ⟨ht, hcell⟩ => by
      have hir : i < t.cfg.rows := by rw [ht.cfg]; exact hi
      refine ⟨ht.trans (gridStep_blankRow hir), fun q hq c hc => ?_⟩
      rw [cell_blankRow hir (by rw [ht.cfg]; exact hc), ht.color, ht.cfg]
      by_cases h1 : q = i
      · rw [if_pos h1]
      · rw [if_neg h1, hcell q (by omega) c hc]
  exact h.2 r hr c hc

/-! ### Steps that change the screen only: cursor, hardware cursor and grid -/

/-- `t` is `s` after console output: only `ROW`, `COL`, `HWCUR` and bytes inside the grid change; the cursor bounds and
the canonical form are kept. -/
structure ScreenStep (s t : State) : Prop where
  rest : t = { s with row := t.row, col := t.col, hwcur := t.hwcur, grid := t.grid }
  outside : ∀ a, ¬ InGridSpace s.cfg a → gridRead t a = gridRead s a
  wf : Memory.wf Config.gridDraw s.grid → Memory.wf Config.gridDraw t.grid
  cursor : CursorInv t

theorem ScreenStep.cfg {s t : State} (h : ScreenStep s t) : t.cfg = s.cfg := by rw [h.rest]
theorem ScreenStep.client {s t : State} (h : ScreenStep s t) : t.client = s.client := by rw [h.rest]
theorem ScreenStep.a0 {s t : State} (h : ScreenStep s t) : t.a0 = s.a0 := by rw [h.rest]
theorem ScreenStep.a1 {s t : State} (h : ScreenStep s t) : t.a1 = s.a1 := by rw [h.rest]
theorem ScreenStep.a2 {s t : State} (h : ScreenStep s t) : t.a2 = s.a2 := by rw [h.rest]
theorem ScreenStep.a3 {s t : State} (h : ScreenStep s t) : t.a3 = s.a3 := by rw [h.rest]
theorem ScreenStep.r0 {s t : State} (h : ScreenStep s t) : t.r0 = s.r0 := by rw [h.rest]
theorem ScreenStep.r1 {s t : State} (h : ScreenStep s t) : t.r1 = s.r1 := by rw [h.rest]
theorem ScreenStep.ie {s t : State} (h : ScreenStep s t) : t.ie = s.ie := by rw [h.rest]
theorem ScreenStep.idtLoaded {s t : State} (h : ScreenStep s t) : t.idtLoaded = s.idtLoaded := by rw [h.rest]
theorem ScreenStep.idtr {s t : State} (h : ScreenStep s t) : t.idtr = s.idtr := by rw [h.rest]
theorem ScreenStep.gates {s t : State} (h : ScreenStep s t) : t.gates = s.gates := by rw [h.rest]
theorem ScreenStep.ticks {s t : State} (h : ScreenStep s t) : t.ticks = s.ticks := by rw [h.rest]
theorem ScreenStep.cb {s t : State} (h : ScreenStep s t) : t.cb = s.cb := by rw [h.rest]
theorem ScreenStep.timerArmed {s t : State} (h : ScreenStep s t) : t.timerArmed = s.timerArmed := by rw [h.rest]
theorem ScreenStep.kbuf {s t : State} (h : ScreenStep s t) : t.kbuf = s.kbuf := by rw [h.rest]
theorem ScreenStep.khead {s t : State} (h : ScreenStep s t) : t.khead = s.khead := by rw [h.rest]
theorem ScreenStep.ktail {s t : State} (h : ScreenStep s t) : t.ktail = s.ktail := by rw [h.rest]
theorem ScreenStep.kcount {s t : State} (h : ScreenStep s t) : t.kcount = s.kcount := by rw [h.rest]
theorem ScreenStep.decAug {s t : State} (h : ScreenStep s t) : t.decAug = s.decAug := by rw [h.rest]
theorem ScreenStep.color {s t : State} (h : ScreenStep s t) : t.color = s.color := by rw [h.rest]
theorem ScreenStep.hidden {s t : State} (h : ScreenStep s t) : t.hidden = s.hidden := by rw [h.rest]
theorem ScreenStep.out {s t : State} (h : ScreenStep s t) : t.out = s.out := by rw [h.rest]
theorem ScreenStep.fault {s t : State} (h : ScreenStep s t) : t.fault = s.fault := by rw [h.rest]

theorem ScreenStep.refl {s : State} (h : CursorInv s) : ScreenStep s s := ⟨rfl, fun _ _ => rfl, id, h⟩

theorem ScreenStep.trans {s t u : State} (h : ScreenStep s t) (h' : ScreenStep t u) : ScreenStep s u where
  rest := by
    conv_lhs => rw [h'.rest, h.rest]
  outside a ha := by
    rw [h'.outside a (by rw [h.cfg]; exact ha), h.outside a ha]
  wf hw := h'.wf (h.wf hw)
  cursor := h'.cursor

theorem GridStep.screen {s t : State} (h : GridStep s t) (hcur : CursorInv s) : ScreenStep s t where
  rest := by
    conv_lhs => rw [h.rest]
    rw [h.rest]
  outside := h.outside
  wf := h.wf
  cursor := by
    unfold CursorInv
    rw [h.row, h.col, h.cfg]
    exact hcur

theorem screenStep_setCursor {s : State} {r c : Nat} (hr : r < s.cfg.rows) (hc : c < s.cfg.cols) :
    ScreenStep s (setCursor r c s) := ⟨rfl, fun _ _ => rfl, id, hr, hc⟩

theorem screenStep_syncHw {s : State} (h : CursorInv s) : ScreenStep s (syncHw s) := ⟨rfl, fun _ _ => rfl, id, h⟩

theorem screenStep_newLine {s : State} (h : CursorInv s) : ScreenStep s (newLine s) := by
  have hcur := h
  obtain ⟨hr, hc⟩ := h
  unfold newLine
  split
  · have h1 : ScreenStep s (setCursor s.row 0 s) := screenStep_setCursor hr (by omega)
    exact h1.trans ((gridStep_scrollGrid (by simp only [setCursor_cfg]; omega)).screen h1.cursor)
  · exact screenStep_setCursor (by omega) (by omega)

theorem screenStep_backspace {s : State} (h : CursorInv s) : ScreenStep s (backspace s) := by
  obtain ⟨hr, hc⟩ := h
  have hpos : 0 < s.cfg.cols := by omega
  have hp : linearPos s - 1 < s.cfg.rows * s.cfg.cols := by
    have := linear_lt hr hc
    unfold linearPos
    omega
  have h1 : ScreenStep s (setCursor ((linearPos s - 1) / s.cfg.cols) ((linearPos s - 1) % s.cfg.cols) s) :=
    screenStep_setCursor (Nat.div_lt_of_lt_mul (by rw [Nat.mul_comm]; exact hp)) (Nat.mod_lt _ hpos)
  exact h1.trans ((gridStep_writeCell _ _ h1.cursor.1 h1.cursor.2).screen h1.cursor)

theorem screenStep_printByte {s : State} (ch : Byte) (h : CursorInv s) : ScreenStep s (printByte ch s) := by
  have h1 : ScreenStep s (writeCell s.row s.col ch s.color s) := (gridStep_writeCell _ _ h.1 h.2).screen h
  dsimp only [printByte]
  split
  · rename_i hlt
    exact h1.trans (screenStep_setCursor h1.cursor.1 hlt)
  · exact h1.trans (screenStep_newLine h1.cursor)

/-- What `PutCh` can do, for every byte. -/
theorem screenStep_putCh {s : State} (ch : Byte) (h : CursorInv s) : ScreenStep s (putCh ch s) := by
  unfold putCh
  split
  · exact screenStep_newLine h
  · split
    · exact screenStep_setCursor h.1 (by have := h.2; omega)
    · split
      · exact screenStep_backspace h
      · exact screenStep_printByte ch h

/-- What PUT_STRING's loop can do. -/
theorem screenStep_putString {s : State} (base : Word) (n : Nat) (h : CursorInv s) :
    ScreenStep s (forUp n (putStringByte base) s) :=
  forUp_induct (fun _ t => ScreenStep s t) (ScreenStep.refl h) fun i t _ ht => by
    have h1 := screenStep_putCh (clientRead t (addressOf base i)) ht.cursor
    exact ht.trans (h1.trans (screenStep_syncHw h1.cursor))

/-- After `SyncHw` the hardware cursor equation holds (spec/10_state.md R38). -/
theorem hwCursorInv_syncHw (s : State) : HwCursorInv (syncHw s) := rfl

/-- A screen step leaves a ready state ready. -/
theorem ScreenStep.ready {s t : State} (h : ScreenStep s t) (hr : ready s = true) : ready t = true := by
  obtain ⟨hf, hc, -, -, h3, h4, h5, h6, h7, h8⟩ := ready_facts hr
  have hcur := h.cursor
  have hcfg := h.cfg
  have hrest := h.rest
  refine ready_congr hr ?_ hcfg (hcfg ▸ hcur.1) (hcfg ▸ hcur.2) ?_ ?_ ?_ ?_ ⟨?_, ?_⟩ <;> rw [hrest] <;> assumption

/-! ### The arms of `PutCh` -/

theorem putCh_newline (s : State) : putCh 0x0A s = newLine s := rfl
theorem putCh_return (s : State) : putCh 0x0D s = setCursor s.row 0 s := rfl
theorem putCh_backspace (s : State) : putCh 0x08 s = backspace s := rfl

theorem putCh_print {ch : Byte} {s : State} (h : ch ∉ [0x0A, 0x0D, 0x08]) : putCh ch s = printByte ch s := by
  simp only [List.mem_cons, List.not_mem_nil, or_false, not_or] at h
  rw [putCh, if_neg h.1, if_neg h.2.1, if_neg h.2.2]

/-- A printing byte that does not wrap off the last row: one cell written, the cursor one cell on. -/
theorem printByte_room {ch : Byte} {s : State} (h : s.col + 1 < s.cfg.cols ∨ s.row + 1 < s.cfg.rows) :
    printByte ch s = setCursor (if s.col + 1 < s.cfg.cols then s.row else s.row + 1)
      (if s.col + 1 < s.cfg.cols then s.col + 1 else 0) (writeCell s.row s.col ch s.color s) := by
  have h1 : (writeCell s.row s.col ch s.color s).cfg = s.cfg := rfl
  have h2 : (writeCell s.row s.col ch s.color s).row = s.row := rfl
  have h3 : (writeCell s.row s.col ch s.color s).col = s.col := rfl
  simp only [printByte, newLine, h1, h2, h3]
  by_cases hc : s.col + 1 < s.cfg.cols
  · simp only [hc, if_true]
  · simp only [hc, if_false]
    rw [if_neg (by omega)]

/-- A printing byte at the last cell: one cell written, then one scroll. -/
theorem printByte_last {ch : Byte} {s : State} (hc : ¬ s.col + 1 < s.cfg.cols) (hr : ¬ s.row + 1 < s.cfg.rows) :
    printByte ch s = scrollGrid (setCursor s.row 0 (writeCell s.row s.col ch s.color s)) := by
  have h1 : (writeCell s.row s.col ch s.color s).cfg = s.cfg := rfl
  have h2 : (writeCell s.row s.col ch s.color s).row = s.row := rfl
  have h3 : (writeCell s.row s.col ch s.color s).col = s.col := rfl
  simp only [printByte, newLine, h1, h2, h3]
  rw [if_neg hc, if_pos (by omega)]

end Sys2Proof.Machine
end

