-- ==== Sys2Proof/Laws/Devices.lean ====
section
/-! SUPPORT. The laws of the timer, keyboard and dispatcher operations: what each changes and nothing else, what the
gate table holds after its installation, and everything an event step can do. -/

namespace Sys2Proof.Machine

/-! ### Timer -/

theorem timerProgram_eq (s : State) :
    timerProgram s = { s with out := s.out ++ [.timerProgram s.cfg.timerDivisor], timerArmed := true } := rfl

/-- `TimerHandler` counts one tick and invokes the callback, if there is one, with the new count. -/
theorem timerHandler_eq (s : State) :
    timerHandler s = { s with
      ticks := nextTick s.cfg s.ticks
      out := if s.cb = 0 then s.out else s.out ++ [.callback s.cb (nextTick s.cfg s.ticks)] } := by
  dsimp only [timerHandler]
  split <;> rename_i h <;> simp_all [tick, emit]

theorem nextTick_lt (cfg : Config) (t : Nat) : nextTick cfg t < 2 ^ cfg.tickWidth :=
  Nat.mod_lt _ (Nat.two_pow_pos _)

/-! ### Keyboard -/

theorem nextIndex_lt {cfg : Config} (h : 1 ≤ cfg.kbufCap) (i : Nat) : nextIndex cfg i < cfg.kbufCap :=
  Nat.mod_lt _ h

/-- `KbdPush` changes the ring's bytes, its head and its count only. -/
theorem kbdPush_rest (b : Byte) (s : State) :
    kbdPush b s = { s with kbuf := (kbdPush b s).kbuf, khead := (kbdPush b s).khead, kcount := (kbdPush b s).kcount } := by
  unfold kbdPush
  split <;> rfl

/-- `KbdPush` on a ring with room. -/
theorem kbdPush_room {b : Byte} {s : State} (h : s.kcount < s.cfg.kbufCap) :
    kbdPush b s = { kbufWrite s.khead b s with khead := nextIndex s.cfg s.khead, kcount := s.kcount + 1 } := by
  rw [kbdPush, if_pos h]

/-- `KbdPush` on a full ring changes nothing. -/
theorem kbdPush_full {b : Byte} {s : State} (h : ¬ s.kcount < s.cfg.kbufCap) : kbdPush b s = s := by
  rw [kbdPush, if_neg h]

/-- `KbdPush` keeps the ring's elements in their types. -/
theorem kbdPush_inRange {b : Byte} {s : State} (hcap : 1 ≤ s.cfg.kbufCap) (hh : s.khead < s.cfg.kbufCap)
    (hc : s.kcount ≤ s.cfg.kbufCap) :
    (kbdPush b s).khead < s.cfg.kbufCap ∧ (kbdPush b s).kcount ≤ s.cfg.kbufCap := by
  by_cases h : s.kcount < s.cfg.kbufCap
  · rw [kbdPush_room h]
    exact ⟨nextIndex_lt hcap _, h⟩
  · rw [kbdPush_full h]
    exact ⟨hh, hc⟩

/-- `KbdPush` keeps the canonical form of the ring's bytes. -/
theorem kbdPush_wf {b : Byte} {s : State} (h : Memory.wf Config.kbufDraw s.kbuf) :
    Memory.wf Config.kbufDraw (kbdPush b s).kbuf := by
  by_cases hc : s.kcount < s.cfg.kbufCap
  · rw [kbdPush_room hc]
    exact Store.wf_write _ _ h
  · rw [kbdPush_full hc]
    exact h

theorem kbufRead_kbufWrite (i j : Nat) (v : Byte) (s : State) :
    kbufRead (kbufWrite i v s) j = if j = i then v else kbufRead s j :=
  Store.read_write Config.kbufDraw s.kbuf i j v

/-- One poll changes the ring's tail and count and the decoder flag only. -/
theorem pollKey_rest (s : State) :
    (pollKey s).2 = { s with
      ktail := (pollKey s).2.ktail, kcount := (pollKey s).2.kcount, decAug := (pollKey s).2.decAug } := by
  unfold pollKey kbdPop
  by_cases h : 0 < s.kcount
  · simp only [h, if_true, decodeStep]
    split <;> rfl
  · simp only [h, if_false]

/-- One poll of an empty ring: nothing is consumed, the decoder keeps its state. -/
theorem pollKey_empty {s : State} (h : s.kcount = 0) : pollKey s = (none, s) := by
  simp [pollKey, kbdPop, h]

/-- One poll of a ring that holds a byte consumes the oldest one and feeds it to the decoder. -/
theorem pollKey_byte {s : State} (h : 0 < s.kcount) :
    pollKey s = decodeStep (kbufRead s s.ktail)
      { s with ktail := nextIndex s.cfg s.ktail, kcount := s.kcount - 1 } := by
  simp [pollKey, kbdPop, h]

/-- One poll keeps the ring's elements in their types. -/
theorem pollKey_inRange {s : State} (hcap : 1 ≤ s.cfg.kbufCap) (ht : s.ktail < s.cfg.kbufCap)
    (hc : s.kcount ≤ s.cfg.kbufCap) :
    (pollKey s).2.ktail < s.cfg.kbufCap ∧ (pollKey s).2.kcount ≤ s.cfg.kbufCap := by
  by_cases h : 0 < s.kcount
  · rw [pollKey_byte h]
    unfold decodeStep
    split <;> exact ⟨nextIndex_lt hcap _, by simp only [setDecAug_kcount]; omega⟩
  · rw [pollKey_empty (by omega)]
    exact ⟨ht, hc⟩

/-! ### The gate table -/

theorem gateAt_gateWrite (v w : Nat) (d : DWord) (s : State) :
    gateAt (gateWrite v d s) w = if w = v then d else gateAt s w :=
  Store.read_write gateDraw s.gates v w d

theorem clearGates_rest (s : State) : clearGates s = { s with gates := (clearGates s).gates } :=
  forUp_induct (fun _ (t : State) => t = { s with gates := t.gates }) rfl fun i t _ ht => by
    show gateWrite i 0 t = { s with gates := (gateWrite i 0 t).gates }
    conv_lhs => rw [ht]
    rfl

theorem installGates_rest (s : State) : installGates s = { s with gates := (installGates s).gates } := by
  unfold installGates gateWrite
  rw [clearGates_rest s]

/-- Every entry of the table is not present after the loop of INSTALL_INTERRUPTS. -/
theorem gateAt_clearGates (s : State) (v : Nat) :
    gateAt (clearGates s) v = if v < s.cfg.nvec then 0 else gateAt s v := by
  have h := forUp_induct (n := s.cfg.nvec) (f := fun v t => gateWrite v 0 t) (x := s)
    (fun n t => gateAt t v = if v < n then 0 else gateAt s v) (by simp) fun i t _ ht => by
      rw [gateAt_gateWrite, ht]
      split_ifs <;> first | rfl | (exfalso; omega)
  exact h

/-- The table after INSTALL_INTERRUPTS (spec/40_dispatch.md R121): the two gates, everything else not present. -/
theorem gateAt_installGates (s : State) (v : Nat) :
    gateAt (installGates s) v =
      if v = s.cfg.vecKbd.toNat then makeGate s.cfg s.cfg.entryKbd
      else if v = s.cfg.vecTimer.toNat then makeGate s.cfg s.cfg.entryTimer
      else if v < s.cfg.nvec then 0 else gateAt s v := by
  unfold installGates
  rw [gateAt_gateWrite, gateAt_gateWrite, gateAt_clearGates]

/-- What holds of the old entries and of the two gates holds of every entry after the installation. -/
theorem forall_installGates {P : Nat × DWord → Prop} {s : State} (h : ∀ e ∈ s.gates, P e) (h0 : ∀ v < s.cfg.nvec, P (v, 0))
    (ht : P (s.cfg.vecTimer.toNat, makeGate s.cfg s.cfg.entryTimer))
    (hk : P (s.cfg.vecKbd.toNat, makeGate s.cfg s.cfg.entryKbd)) : ∀ e ∈ (installGates s).gates, P e := by
  have hc : ∀ e ∈ (clearGates s).gates, P e :=
    forUp_induct (fun _ (t : State) => ∀ e ∈ t.gates, P e) h fun i _ hi hP =>
      Store.forall_write (dflt := gateDraw) hP (h0 i hi)
  exact Store.forall_write (dflt := gateDraw) (Store.forall_write (dflt := gateDraw) hc ht) hk

theorem installGates_wf {s : State} (h : Store.wf gateDraw s.gates) : Store.wf gateDraw (installGates s).gates := by
  have hc : Store.wf gateDraw (clearGates s).gates :=
    forUp_induct (fun _ (t : State) => Store.wf gateDraw t.gates) h fun i _ _ ht => Store.wf_write i 0 ht
  exact Store.wf_write _ _ (Store.wf_write _ _ hc)

/-- What INSTALL_INTERRUPTS leaves, field by field. -/
theorem installInterrupts_effect (s : State) :
    setR0 resOk (setIe true (timerProgram (loadIdt (installGates s)))) = { s with
      gates := (installGates s).gates, idtr := ⟨s.cfg.idtBase, idtLimit s.cfg⟩, idtLoaded := true
      timerArmed := true, ie := true, r0 := 0
      out := s.out ++ [.idtLoad s.cfg.idtBase (idtLimit s.cfg), .timerProgram s.cfg.timerDivisor] } := by
  have h := installGates_rest s
  generalize installGates s = x at h
  generalize x.gates = g at h
  subst h
  simp [setR0, setIe, timerProgram, loadIdt, setTimerArmed, emit, setIdtLoaded, resOk]

/-! ### Entry, dispatch, return -/

/-- Entry succeeds exactly through a present gate of a loaded table; it takes the snapshot and changes `IE` only. -/
theorem enter_ok {v : Byte} {s : State} (hl : s.idtLoaded = true) (hp : gatePresent (gateAt s v.toNat) = true) :
    ∃ b, enter v s = .ok (⟨v, s.ie⟩, setIe b s) := by
  unfold enter
  rw [hl, hp]
  by_cases ht : gateType (gateAt s v.toNat) = interruptGateType
  · exact ⟨false, by simp [ht]⟩
  · exact ⟨s.ie, by simp [ht, setIe]⟩

/-- Entry fails with the model fault otherwise. -/
theorem enter_error {v : Byte} {s : State} (h : ¬ (s.idtLoaded = true ∧ gatePresent (gateAt s v.toNat) = true)) :
    enter v s = .error (.gateNotPresent v) := by
  unfold enter
  rw [if_neg]
  simpa using h

/-- `Dispatch` neither reads nor writes `IE`. -/
theorem dispatch_setIe (v d : Byte) (b : Bool) (s : State) : dispatch v d (setIe b s) = setIe b (dispatch v d s) := by
  unfold dispatch
  by_cases ht : v = s.cfg.vecTimer
  · rw [if_pos ht, if_pos (show v = (setIe b s).cfg.vecTimer from ht), timerHandler_eq, timerHandler_eq]
    rfl
  · rw [if_neg ht, if_neg (show ¬ v = (setIe b s).cfg.vecTimer from ht)]
    by_cases hk : v = s.cfg.vecKbd
    · rw [if_pos hk, if_pos (show v = (setIe b s).cfg.vecKbd from hk)]
      unfold kbdHandler
      by_cases hc : s.kcount < s.cfg.kbufCap
      · rw [kbdPush_room hc, kbdPush_room (s := setIe b s) hc]
        rfl
      · rw [kbdPush_full hc, kbdPush_full (s := setIe b s) hc]
        rfl
    · rw [if_neg hk, if_neg (show ¬ v = (setIe b s).cfg.vecKbd from hk)]
      rfl

theorem dispatch_ie (v d : Byte) (s : State) : (dispatch v d s).ie = s.ie := by
  unfold dispatch
  split
  · rw [timerHandler_eq]
    rfl
  · split
    · unfold kbdHandler
      rw [kbdPush_rest]
      rfl
    · rfl

/-- `Dispatch` for the timer vector. -/
theorem dispatch_timer (d : Byte) (s : State) :
    dispatch s.cfg.vecTimer d s = emit (.ack s.cfg.vecTimer) (timerHandler s) := by
  unfold dispatch
  rw [if_pos rfl]
  rfl

/-- `Dispatch` for the keyboard vector. -/
theorem dispatch_kbd {s : State} (h : s.cfg.vecTimer ≠ s.cfg.vecKbd) (d : Byte) :
    dispatch s.cfg.vecKbd d s = emit (.ack s.cfg.vecKbd) (kbdPush d s) := by
  unfold dispatch
  rw [if_neg (Ne.symm h), if_pos rfl]
  rfl

/-- `Dispatch` for any other vector: the diagnostic, no acknowledge. -/
theorem dispatch_other {v : Byte} {s : State} (ht : v ≠ s.cfg.vecTimer) (hk : v ≠ s.cfg.vecKbd) (d : Byte) :
    dispatch v d s = emit (.diag v) s := by
  unfold dispatch
  rw [if_neg ht, if_neg hk]

/-- `Dispatch` changes the tick counter, the ring and the output trace only. -/
theorem dispatch_rest (v d : Byte) (s : State) :
    dispatch v d s = { s with
      ticks := (dispatch v d s).ticks, kbuf := (dispatch v d s).kbuf, khead := (dispatch v d s).khead
      kcount := (dispatch v d s).kcount, out := (dispatch v d s).out } := by
  unfold dispatch
  split
  · rw [timerHandler_eq]
    rfl
  · split
    · unfold kbdHandler
      rw [kbdPush_rest]
      rfl
    · rfl

/-- An event that is delivered runs `Dispatch`, and `IE` is 1 before and after (spec/60_exceptions.md R222). -/
theorem takeEvent_deliverable {v : Byte} {s : State} (d : Byte) (h : ready s = true) (hd : Deliverable s v) :
    takeEvent v d s = .next (dispatch v d s) := by
  obtain ⟨hie, hl, hp⟩ := hd
  obtain ⟨b, hb⟩ := enter_ok hl hp
  unfold takeEvent
  rw [whenReady_ready h, if_pos hie, hb]
  simp only [ret, dispatch_setIe, hie]
  congr 1
  have := dispatch_ie v d s
  simp only [setIe]
  rw [← hie, ← this]

/-- An event with `IE = 0` is not taken. -/
theorem takeEvent_disabled {v : Byte} {s : State} (d : Byte) (h : ready s = true) (hie : s.ie = false) :
    takeEvent v d s = .next s := by
  unfold takeEvent
  rw [whenReady_ready h, hie]
  rfl

/-- An event through a missing table or a gate that is not present sets the model fault. -/
theorem takeEvent_no_gate {v : Byte} {s : State} (d : Byte) (h : ready s = true) (hie : s.ie = true)
    (hg : ¬ (s.idtLoaded = true ∧ gatePresent (gateAt s v.toNat) = true)) :
    takeEvent v d s = .next (raiseFault (.gateNotPresent v) s) := by
  unfold takeEvent
  rw [whenReady_ready h, if_pos hie, enter_error hg]

/-- EVERYTHING AN EVENT STEP CAN DO. -/
theorem takeEvent_cases {v d : Byte} {s t : State} (h : takeEvent v d s = .next t) :
    ready s = true ∧ (s.ie = false ∧ t = s
      ∨ s.ie = true ∧ ¬ (s.idtLoaded = true ∧ gatePresent (gateAt s v.toNat) = true)
          ∧ t = raiseFault (.gateNotPresent v) s
      ∨ Deliverable s v ∧ t = dispatch v d s) := by
  have hr : ready s = true := (whenReady_next (r := .next _) h).1
  refine ⟨hr, ?_⟩
  by_cases hie : s.ie = true
  · by_cases hg : s.idtLoaded = true ∧ gatePresent (gateAt s v.toNat) = true
    · rw [takeEvent_deliverable d hr ⟨hie, hg⟩] at h
      cases h
      exact .inr (.inr ⟨⟨hie, hg⟩, rfl⟩)
    · rw [takeEvent_no_gate d hr hie hg] at h
      cases h
      exact .inr (.inl ⟨hie, hg, rfl⟩)
  · rw [takeEvent_disabled d hr (by simpa using hie)] at h
    cases h
    exact .inl ⟨by simpa using hie, rfl⟩

end Sys2Proof.Machine
end

