-- ==== Sys2Proof/Laws/Exec.lean ====
section
/-! SUPPORT. What `exec` and `step` can do: a next state comes out of a ready state only, and each instruction of a ready
state has its effect; what a step is, by the input at the front of the inbox. -/

namespace Sys2Proof.Machine

/-- A next state comes out of a ready state only. -/
theorem exec_ready {i : Instr} {s t : State} (h : exec i s = .next t) : ready s = true := by
  cases i <;> exact (whenReady_next h).1

/-- Any instruction of a faulted state answers the fault. -/
theorem exec_faulted {s : State} {f : Fault} (h : s.fault = some f) (i : Instr) : exec i s = .fault f := by
  cases i <;> exact whenReady_faulted h _

/-- What PUT_CHARACTER leaves. -/
theorem exec_putCharacter {s : State} (h : ready s = true) :
    exec .putCharacter s = .next (setR0 (zextByte (byteOf s.a0)) (syncHw (putCh (byteOf s.a0) s))) :=
  whenReady_ready h _

/-- What PUT_STRING leaves when it prints nothing. -/
theorem exec_putString_nothing {s : State} (h : ready s = true) (hn : s.a0 = 0 ∨ s.a1.toInt ≤ 0) :
    exec .putString s = .next (setR0 resOk s) := by
  rw [exec, execPutString, whenReady_ready h, if_pos hn]

/-- What PUT_STRING leaves when it prints. -/
theorem exec_putString {s : State} (h : ready s = true) (hn : ¬ (s.a0 = 0 ∨ s.a1.toInt ≤ 0)) :
    exec .putString s = .next (setR0 resOk (forUp (lengthOf s.a1) (putStringByte s.a0) s)) := by
  rw [exec, execPutString, whenReady_ready h, if_neg hn]

theorem rangeChecked_some {v : Word} {n k : Nat} (h : v.toInt = k) (hk : k < n) : rangeChecked v n = some k := by
  rw [rangeChecked, if_pos (by omega), h]
  rfl

theorem rangeChecked_none {v : Word} {n : Nat} (h : v.toInt < 0 ∨ n ≤ v.toInt) : rangeChecked v n = none := by
  rw [rangeChecked, if_neg (by omega)]

/-- A range-checked operand is a number below its bound that stands for the signed value. -/
theorem rangeChecked_eq_some {v : Word} {n k : Nat} (h : rangeChecked v n = some k) : k < n ∧ v.toInt = k := by
  unfold rangeChecked at h
  split at h
  · cases h
    omega
  · cases h

theorem inGrid_some {cfg : Config} {x y : Word} {r c : Nat} (hx : x.toInt = r) (hy : y.toInt = c)
    (hr : r < cfg.rows) (hc : c < cfg.cols) : inGrid cfg x y = some (r, c) := by
  rw [inGrid, rangeChecked_some hx hr, rangeChecked_some hy hc]

theorem inGrid_none {cfg : Config} {x y : Word}
    (h : x.toInt < 0 ∨ cfg.rows ≤ x.toInt ∨ y.toInt < 0 ∨ cfg.cols ≤ y.toInt) : inGrid cfg x y = none := by
  unfold inGrid
  split
  · rename_i hx hy
    have h1 := rangeChecked_eq_some hx
    have h2 := rangeChecked_eq_some hy
    omega
  · rfl

/-- A coordinate pair that passes lies in the grid. -/
theorem inGrid_eq_some {cfg : Config} {x y : Word} {r c : Nat} (h : inGrid cfg x y = some (r, c)) :
    r < cfg.rows ∧ c < cfg.cols ∧ x.toInt = r ∧ y.toInt = c := by
  unfold inGrid at h
  split at h
  · rename_i hx hy
    cases h
    exact ⟨(rangeChecked_eq_some hx).1, (rangeChecked_eq_some hy).1, (rangeChecked_eq_some hx).2,
      (rangeChecked_eq_some hy).2⟩
  · cases h

/-- EVERYTHING AN INSTRUCTION CAN DO: the effect of each, from a ready state. -/
theorem exec_cases {i : Instr} {s t : State} (h : exec i s = .next t) :
    ready s = true ∧ match i with
      | .installInterrupts => t = setR0 resOk (setIe true (timerProgram (loadIdt (installGates s))))
      | .installTimer => t = setR0 resOk { timerProgram s with cb := s.a0, ticks := 0 }
      | .getTicks => t = setR0 (wordOf s.ticks) s
      | .readCharacter => t = setR0 (characterResult (pollKey s).1) (pollKey s).2
      | .putCharacter => t = setR0 (zextByte (byteOf s.a0)) (syncHw (putCh (byteOf s.a0) s))
      | .putString =>
        t = setR0 resOk s ∨ 0 < s.a1.toInt ∧ t = setR0 resOk (forUp (lengthOf s.a1) (putStringByte s.a0) s)
      | .setColor => t = setR0 resErrInval s ∨ t = setR0 resOk { s with color := byteOf s.a0 }
      | .getColor => t = setR0 (zextByte s.color) s
      | .setCursor => t = setR0 resErrInval s
          ∨ ∃ r c, inGrid s.cfg s.a0 s.a1 = some (r, c) ∧ t = setR0 resOk (syncHw (setCursor r c s))
      | .getCursor => t = setR1 (wordOf s.col) (setR0 (wordOf s.row) s)
      | .hideCursor => t = setR0 resOk (syncHw (setHidden true s))
      | .showCursor => t = setR0 resOk (syncHw (setHidden false s))
      | .clear => t = setR0 resOk (syncHw (setCursor 0 0 (clearGrid s)))
      | .drawCharacter => t = setR0 resErrInval s
          ∨ ∃ r c, inGrid s.cfg s.a0 s.a1 = some (r, c) ∧ t = setR0 resOk (writeCell r c (byteOf s.a2) (byteOf s.a3) s)
      | .readCharacterAt =>
        (inGrid s.cfg s.a0 s.a1 = none ∧ t = raiseFault (.uncheckedReadOutOfRange s.a0 s.a1) s)
          ∨ ∃ r c, inGrid s.cfg s.a0 s.a1 = some (r, c) ∧ t = setR0 (zextByte (cellCh s r c)) s
      | .scroll => t = setR0 resOk (scrollGrid s)
      | .reserved _ => t = setR0 resErrInval s
      | .intTimer d => takeEvent s.cfg.vecTimer d s = .next t
      | .intKbd d => takeEvent s.cfg.vecKbd d s = .next t
      | .intOther v d => takeEvent v d s = .next t := by
  have hr := exec_ready h
  refine ⟨hr, ?_⟩
  cases i
  case putString =>
    by_cases hn : s.a0 = 0 ∨ s.a1.toInt ≤ 0
    · rw [exec_putString_nothing hr hn] at h
      cases h
      exact .inl rfl
    · rw [exec_putString hr hn] at h
      cases h
      exact .inr ⟨by omega, rfl⟩
  case setColor =>
    rw [exec, execSetColor, whenReady_ready hr] at h
    cases hx : rangeChecked s.a0 256 <;> rw [hx] at h <;> cases h
    · exact .inl rfl
    · exact .inr rfl
  case setCursor =>
    rw [exec, execSetCursor, whenReady_ready hr] at h
    cases hx : inGrid s.cfg s.a0 s.a1 <;> rw [hx] at h <;> cases h
    · exact .inl rfl
    · exact .inr ⟨_, _, rfl, rfl⟩
  case drawCharacter =>
    rw [exec, execDrawCharacter, whenReady_ready hr] at h
    cases hx : inGrid s.cfg s.a0 s.a1 with
    | none =>
      rw [hx] at h
      cases h
      exact .inl rfl
    | some rc =>
      rw [hx] at h
      simp only [Host.Outcome.next.injEq] at h
      split at h
      · exact .inr ⟨_, _, rfl, h.symm⟩
      · exact .inl h.symm
  case readCharacterAt =>
    rw [exec, execReadCharacterAt, whenReady_ready hr] at h
    cases hx : inGrid s.cfg s.a0 s.a1 <;> rw [hx] at h <;> cases h
    · exact .inl ⟨rfl, rfl⟩
    · exact .inr ⟨_, _, rfl, rfl⟩
  case intTimer => exact h
  case intKbd => exact h
  case intOther => exact h
  all_goals
    have h' := (whenReady_next h).2
    cases h'
    rfl

/-! ### The step -/

theorem ready_inbox (s : State) (x : List Input) : ready { s with inbox := x } = ready s := rfl

/-- EVERYTHING A STEP CAN DO: it idles, runs an instruction with the rest of the inbox left, or moves bus data. -/
theorem step_cases {s t : State} (h : step s = .next t) :
    ready s = true ∧ ((s.inbox = [] ∧ t = s)
      ∨ (∃ i rest, exec i { s with inbox := rest } = .next t)
      ∨ (∃ r v rest, t = writeOperand r v { s with inbox := rest })
      ∨ (∃ rest, t = { s with inbox := rest })
      ∨ ∃ r rest, t = busRead r { s with inbox := rest }) := by
  unfold step fetch at h
  split at h
  · rename_i i s' hf
    split at hf
    · cases hf
    · cases hf
      exact ⟨(ready_inbox s _).symm.trans (exec_ready h), .inr (.inl ⟨_, _, h⟩)⟩
    · split at hf
      · cases hf
        exact ⟨(ready_inbox s _).symm.trans (exec_ready h), .inr (.inl ⟨_, _, h⟩)⟩
      · cases hf
      · cases hf
      · cases hf
    · split at hf <;> cases hf
  · rename_i r hf
    split at hf
    · rename_i hin
      cases hf
      obtain ⟨hr, he⟩ := whenReady_next h
      cases he
      exact ⟨hr, .inl ⟨hin, rfl⟩⟩
    · cases hf
    · split at hf
      · cases hf
      · cases hf
        obtain ⟨hr, he⟩ := whenReady_next h
        cases he
        exact ⟨hr, .inr (.inr (.inl ⟨_, _, _, rfl⟩))⟩
      · cases hf
        obtain ⟨hr, he⟩ := whenReady_next h
        cases he
        exact ⟨hr, .inr (.inr (.inr (.inl ⟨_, rfl⟩)))⟩
      · cases hf
        obtain ⟨-, he⟩ := whenReady_next h
        cases he
    · split at hf
      · cases hf
        obtain ⟨hr, he⟩ := whenReady_next h
        cases he
        exact ⟨hr, .inr (.inr (.inr (.inr ⟨_, _, rfl⟩)))⟩
      · cases hf
        obtain ⟨-, he⟩ := whenReady_next h
        cases he

end Sys2Proof.Machine
end

