-- ==== Sys2Proof/Laws/PerInstr.lean ====
section
/-! SUPPORT. Statements per instruction. `EncodedSize`: under every configuration an instruction is encoded in the bytes
its carrier presents at once, one on the command port and two from the interrupt source (spec/30_encoding.md R90, R97). -/

namespace Sys2Proof.Laws

/-- The bytes a carrier presents for one instruction. -/
def carrierSize : Carrier → Nat
  | .command => 1
  | .event => 2

/-- An instruction's encoding has the size of its carrier. -/
def EncodedSize.Statement (i : Instr) : Prop :=
  ∀ cfg : Config, (encode cfg i).length = carrierSize (carrierOf i)

theorem EncodedSize.installInterrupts : EncodedSize.Statement .installInterrupts := fun _ => rfl
theorem EncodedSize.installTimer : EncodedSize.Statement .installTimer := fun _ => rfl
theorem EncodedSize.getTicks : EncodedSize.Statement .getTicks := fun _ => rfl
theorem EncodedSize.readCharacter : EncodedSize.Statement .readCharacter := fun _ => rfl
theorem EncodedSize.putCharacter : EncodedSize.Statement .putCharacter := fun _ => rfl
theorem EncodedSize.putString : EncodedSize.Statement .putString := fun _ => rfl
theorem EncodedSize.setColor : EncodedSize.Statement .setColor := fun _ => rfl
theorem EncodedSize.getColor : EncodedSize.Statement .getColor := fun _ => rfl
theorem EncodedSize.setCursor : EncodedSize.Statement .setCursor := fun _ => rfl
theorem EncodedSize.getCursor : EncodedSize.Statement .getCursor := fun _ => rfl
theorem EncodedSize.hideCursor : EncodedSize.Statement .hideCursor := fun _ => rfl
theorem EncodedSize.showCursor : EncodedSize.Statement .showCursor := fun _ => rfl
theorem EncodedSize.clear : EncodedSize.Statement .clear := fun _ => rfl
theorem EncodedSize.drawCharacter : EncodedSize.Statement .drawCharacter := fun _ => rfl
theorem EncodedSize.readCharacterAt : EncodedSize.Statement .readCharacterAt := fun _ => rfl
theorem EncodedSize.scroll : EncodedSize.Statement .scroll := fun _ => rfl
theorem EncodedSize.reserved (opcode : Byte) : EncodedSize.Statement (.reserved opcode) := fun _ => rfl
theorem EncodedSize.intTimer (d : Byte) : EncodedSize.Statement (.intTimer d) := fun _ => rfl
theorem EncodedSize.intKbd (d : Byte) : EncodedSize.Statement (.intKbd d) := fun _ => rfl
theorem EncodedSize.intOther (v d : Byte) : EncodedSize.Statement (.intOther v d) := fun _ => rfl

end Sys2Proof.Laws
end

