-- ==== Sys2Proof/Tests/Slice0.lean ====
section
/-! SUPPORT. The model's own tests: ill-formed terms refused, every constructor's word, one step per instruction from the
spec's tables and examples, and for every statement that has hypotheses a state and operands that meet them. Expected
values come from spec/95_test_vectors.md and from the rules, by hand; each test names its source. -/

namespace Sys2Proof.Tests

open Sys2Proof.Machine

/-! ### Helpers -/

/-- A small well-formed configuration: a grid of 2 by 3, a ring of 4 bytes, 34 vectors, 8-bit ticks. -/
def smallConfig : Config := { refConfig with rows := 2, cols := 3, kbufCap := 4, nvec := 34, tickWidth := 8 }

/-- Reset in the small configuration. -/
def small : State := State.resetWith smallConfig

/-- The small configuration after INSTALL_INTERRUPTS, its trace emptied. -/
def installed : State := { small with
  gates := [(0x20, 0x00108E0000101000), (0x21, 0x00108E0000101010)]
  idtr := ⟨0x00100000, 271⟩, idtLoaded := true, timerArmed := true, ie := true }

/-- A misconfigured table: one more gate, vector 5, is present. -/
def misconfigured : State := { installed with gates := (5, 0x00108E0000101000) :: installed.gates }

/-- A state with the four operand registers as given. -/
def withOperands (s : State) (a0 a1 a2 a3 : Word) : State := { s with a0 := a0, a1 := a1, a2 := a2, a3 := a3 }

/-- A view of the next state, none for a fault or a refusal. -/
def after {α : Type} (r : Result) (view : State → α) : Option α :=
  match r with
  | .next s => some (view s)
  | _ => none

/-- Two instructions in a row. -/
def thenExec (r : Result) (i : Instr) : Result :=
  match r with
  | .next s => exec i s
  | r => r

/-- The outcome is a next state. -/
def isNext (r : Result) : Bool := (after r id).isSome

theorem exists_next {r : Result} (h : isNext r = true) : ∃ t, r = .next t := by
  cases r with
  | next t => exact ⟨t, rfl⟩
  | fault => cases h
  | refused => cases h

/-! ### WellFormed: one ill-formed term for each check -/

theorem test_wellFormed_refuses_a_command_byte : wellFormed refConfig (.reserved 0x2B) = false := by decide
theorem test_wellFormed_refuses_the_timer_vector : wellFormed refConfig (.intOther 0x20 0) = false := by decide
theorem test_wellFormed_refuses_the_keyboard_vector : wellFormed refConfig (.intOther 0x21 0) = false := by decide

theorem test_configOk_small : configOk smallConfig = true := by decide
theorem test_configOk_refuses_equal_vectors :
    configOk { smallConfig with vecKbd := smallConfig.vecTimer } = false := by decide
theorem test_configOk_refuses_trap_gates : configOk { smallConfig with gateType := .trap } = false := by decide
theorem test_configOk_refuses_a_large_grid :
    configOk { smallConfig with rows := 256, cols := 256 } = false := by decide

/-! ### Decoding: the words of spec/95_test_vectors.md 2.1, written out bit by bit -/

theorem test_decode_installInterrupts : decodeTableWord 8 0b00000001 = some .installInterrupts := by decide
theorem test_decode_installTimer : decodeTableWord 8 0b00000010 = some .installTimer := by decide
theorem test_decode_getTicks : decodeTableWord 8 0b00000011 = some .getTicks := by decide
theorem test_decode_readCharacter : decodeTableWord 8 0b00010000 = some .readCharacter := by decide
theorem test_decode_putCharacter : decodeTableWord 8 0b00100000 = some .putCharacter := by decide
theorem test_decode_putString : decodeTableWord 8 0b00100001 = some .putString := by decide
theorem test_decode_setColor : decodeTableWord 8 0b00100010 = some .setColor := by decide
theorem test_decode_getColor : decodeTableWord 8 0b00100011 = some .getColor := by decide
theorem test_decode_setCursor : decodeTableWord 8 0b00100100 = some .setCursor := by decide
theorem test_decode_getCursor : decodeTableWord 8 0b00100101 = some .getCursor := by decide
theorem test_decode_hideCursor : decodeTableWord 8 0b00100110 = some .hideCursor := by decide
theorem test_decode_showCursor : decodeTableWord 8 0b00100111 = some .showCursor := by decide
theorem test_decode_clear : decodeTableWord 8 0b00101000 = some .clear := by decide
theorem test_decode_drawCharacter : decodeTableWord 8 0b00101001 = some .drawCharacter := by decide
theorem test_decode_readCharacterAt : decodeTableWord 8 0b00101010 = some .readCharacterAt := by decide
theorem test_decode_scroll : decodeTableWord 8 0b00101011 = some .scroll := by decide
theorem test_decode_reserved :
    [0x00, 0x04, 0x0F, 0x11, 0x1F, 0x2C, 0x30, 0x80, 0xFF].map (decodeTableWord 8)
      = [0x00, 0x04, 0x0F, 0x11, 0x1F, 0x2C, 0x30, 0x80, 0xFF].map fun b => some (.reserved b) := by decide
theorem test_decode_intTimer : decodeTableWord 16 0b1111111100100000 = some (.intTimer 0xFF) := by decide
theorem test_decode_intKbd : decodeTableWord 16 0b1110000000100001 = some (.intKbd 0xE0) := by decide
theorem test_decode_intOther :
    decodeTableWord 16 0b0000000000011111 = some (.intOther 0x1F 0x00)
      ∧ decodeTableWord 16 0b1010101011111111 = some (.intOther 0xFF 0xAA) := by decide
theorem test_decode_rejects : decodeBytes refConfig .command [] = .error .commandTruncated
    ∧ decodeBytes refConfig .event [0x20] = .error .eventTruncated := ⟨rfl, rfl⟩

/-- The bus write of 0xABCD0123 to `CMD` runs GET_COLOR (spec/95_test_vectors.md 2.1). -/
theorem test_cmd_ignores_high_bits :
    after (step { small with inbox := [.write 0 0xABCD0123] }) (fun s => (s.r0, s.inbox)) = some (0x07, []) := by decide

/-! ### One step per instruction -/

/-- spec/95_test_vectors.md 2.2, in the small configuration. -/
theorem test_installInterrupts :
    after (exec .installInterrupts { small with ticks := 9, cb := 0x2000, kcount := 3 })
      (fun s => (s.gates == installed.gates, s.idtr == installed.idtr, s.ie && s.idtLoaded && s.timerArmed, s.out)) =
      some (true, true, true, [.idtLoad 0x00100000 271, .timerProgram 11932]) := by decide

theorem test_installInterrupts_keeps :
    after (exec .installInterrupts { small with ticks := 9, cb := 0x2000, kcount := 3 })
      (fun s => (s.ticks, s.cb, s.kcount, s.r0)) = some (9, 0x2000, 3, 0) := by decide

/-- The table of `MakeGate` (spec/95_test_vectors.md 2.2). -/
theorem test_makeGate :
    makeGate refConfig 0xFFFFFFFF = 0xFFFF8E000010FFFF
      ∧ makeGate { refConfig with codeSel := 0x0008, gateDpl := 3 } 0xC0DE1234 = 0xC0DEEE0000081234
      ∧ makeGate { refConfig with codeSel := 0x0008, gateType := .trap } 0xC0DE1234 = 0xC0DE8F0000081234 := by decide

/-- `GATE[0x20]` in memory (spec/95_test_vectors.md 2.2). -/
theorem test_gateByte :
    (List.range 8).map (fun k => gateByte installed (0x00100100 + k))
      = [0x00, 0x10, 0x10, 0x00, 0x00, 0x8E, 0x10, 0x00].map some ∧ gateByte installed 0x000FFFFF = none := by decide

/-- spec/95_test_vectors.md 2.3. -/
theorem test_installTimer :
    after (exec .installTimer { small with ticks := 7, cb := 0x2000, a0 := 0x3000 })
      (fun s => (s.cb, s.ticks, s.timerArmed, s.ie, s.out)) = some (0x3000, 0, true, false, [.timerProgram 11932]) := by
  decide

/-- spec/95_test_vectors.md 2.3: the count 0x80000000 is its bit pattern. -/
theorem test_getTicks : after (exec .getTicks { State.reset with ticks := 0x80000000 }) (·.r0) = some 0x80000000 := by
  decide

/-- spec/95_test_vectors.md 2.4: ring `[0x1E, 0x9E]`, the press then the release. -/
theorem test_readCharacter :
    after (thenExec (exec .readCharacter { small with kbuf := [(0, 0x1E), (1, 0x9E)], khead := 2, kcount := 2 })
      .readCharacter) (fun s => (s.r0, s.ktail, s.kcount)) = some (0xFFFFFFFF, 2, 0) := by decide

/-- spec/95_test_vectors.md 2.4: ring `[0xE0, 0x1C]`, the keypad Enter of two polls. -/
theorem test_readCharacter_augmented :
    after (thenExec (exec .readCharacter { small with kbuf := [(0, 0x1C), (3, 0xE0)], khead := 1, ktail := 3, kcount := 2 })
      .readCharacter) (fun s => (s.r0, s.ktail, s.kcount, s.decAug)) = some (0x0A, 1, 0, false) := by decide

/-- The decoder's table (spec/95_test_vectors.md 2.4). -/
theorem test_decodeStep :
    [(false, 0x1E), (false, 0x9E), (false, 0x2A), (false, 0xE1), (false, 0xE0), (true, 0xE0), (true, 0x35), (true, 0x1E)].map
        (fun p => ((decodeStep p.2 { small with decAug := p.1 }).1, (decodeStep p.2 { small with decAug := p.1 }).2.decAug))
      = [(some 0x61, false), (none, false), (none, false), (none, false), (none, true), (none, true), (some 0x2F, false),
         (none, false)] := by decide

/-- spec/95_test_vectors.md 2.5, REFCFG: the cursor after a byte at (0, 79). -/
theorem test_putCharacter_wraps :
    after (exec .putCharacter { State.reset with a0 := 0x141, col := 79 })
      (fun s => (s.row, s.col, s.hwcur, s.r0)) = some (1, 0, 80, 0x41) := by decide

/-- spec/95_test_vectors.md 2.5, REFCFG: backspace at (5, 0). -/
theorem test_putCharacter_backspace :
    after (exec .putCharacter { State.reset with a0 := 0x08, row := 5 })
      (fun s => (s.row, s.col, s.hwcur, s.r0)) = some (4, 79, 399, 0x08) := by decide

/-- spec/95_test_vectors.md 2.5: `'a'`, a return, `'b'` from (1, 1). -/
theorem test_putString :
    after (exec .putString { withOperands small 0x5000 3 0 0 with
      row := 1, col := 1, client := [(0x5000, 0x61), (0x5001, 0x0D), (0x5002, 0x62)] })
      (fun s => (s.row, s.col, s.hwcur, s.r0)) = some (1, 1, 4, 0) := by decide

/-- spec/95_test_vectors.md 2.5: string addresses wrap modulo 2^32. -/
theorem test_putString_wraps_addresses :
    after (exec .putString { withOperands small 0xFFFFFFFF 2 0 0 with client := [(0, 0x0A), (0xFFFFFFFF, 0x0D)] })
      (fun s => (s.row, s.col, s.hwcur)) = some (1, 0, 3) := by decide

/-- spec/95_test_vectors.md E3. -/
theorem test_setColor_range :
    [0x00, 0xFF, 0x100, 0x10F, 0xFFFFFFFF].map (fun v => after (exec .setColor { small with a0 := v }) fun s => (s.r0, s.color))
      = [some (0, 0), some (0, 0xFF), some (0xFFFFFFFF, 0x07), some (0xFFFFFFFF, 0x07), some (0xFFFFFFFF, 0x07)] := by decide
theorem test_getColor : after (exec .getColor { small with color := 0x1F }) (·.r0) = some 0x1F := by decide

/-- spec/95_test_vectors.md E1, E2, REFCFG. -/
theorem test_setCursor :
    after (exec .setCursor (withOperands State.reset 24 79 0 0)) (fun s => (s.row, s.col, s.hwcur, s.r0))
      = some (24, 79, 1999, 0) := by decide
theorem test_setCursor_rejects :
    [(25, 0), (0, 80), (0xFFFFFFFF, 0), (0, 0xFFFFFFFF), (3, 80), (0x7FFFFFFF, 0), (0x80000000, 0x80000000)].map
        (fun p => after (exec .setCursor (withOperands { State.reset with row := 3, col := 4 } p.1 p.2 0 0))
          fun s => (s.row, s.col, s.r0)) = List.replicate 7 (some (3, 4, 0xFFFFFFFF)) := by decide
theorem test_getCursor :
    after (exec .getCursor { State.reset with row := 3, col := 4 }) (fun s => (s.r0, s.r1)) = some (3, 4) := by decide

/-- spec/43_console.md R181, R182 examples. -/
theorem test_hideCursor :
    after (exec .hideCursor { State.reset with row := 2, col := 5, hwcur := 165 }) (fun s => (s.hidden, s.hwcur, s.row))
      = some (true, 2000, 2) := by decide
theorem test_showCursor :
    after (exec .showCursor { State.reset with row := 2, col := 7, hidden := true, hwcur := 2000 })
      (fun s => (s.hidden, s.hwcur)) = some (false, 167) := by decide

/-- spec/43_console.md R184: hidden stays hidden. -/
theorem test_clear :
    after (exec .clear { small with row := 1, col := 2, hidden := true, color := 0x1F })
      (fun s => (s.row, s.col, s.hwcur, s.hidden, s.color)) = some (0, 0, 6, true, 0x1F) := by decide
theorem test_clear_cell : cell (clearGrid { small with color := 0x1F }) 1 2 = (0x20, 0x1F) :=
  cell_clearGrid (by decide) (by decide)

/-- spec/43_console.md R185: the last cell, and each argument out of range. -/
theorem test_drawCharacter_cell :
    cell (writeCell 1 2 (byteOf 0x5A) (byteOf 0x4E) small) 1 2 = (0x5A, 0x4E) :=
  (cell_writeCell _ _ small (by decide) (by decide)).trans (by decide)
theorem test_drawCharacter_range :
    [(1, 2, 0x5A, 0x4E), (2, 2, 0x5A, 0x4E), (1, 3, 0x5A, 0x4E), (1, 2, 0x100, 0x4E), (1, 2, 0x5A, 0x100)].map
        (fun p => after (exec .drawCharacter (withOperands small p.1 p.2.1 p.2.2.1 p.2.2.2)) (·.r0))
      = [some 0, some 0xFFFFFFFF, some 0xFFFFFFFF, some 0xFFFFFFFF, some 0xFFFFFFFF] := by decide

/-- spec/43_console.md R186: the character byte of the last cell, and the fault beside the grid. -/
theorem test_readCharacterAt :
    after (exec .readCharacterAt { withOperands State.reset 24 79 0 0 with grid := [(0xB8F9E, 0x5A), (0xB8F9F, 0x4E)] })
      (fun s => (s.r0, s.fault)) = some (0x5A, none) := by decide
theorem test_readCharacterAt_faults :
    after (exec .readCharacterAt { withOperands small 2 0 0 0 with r0 := 7 }) (fun s => (s.r0, s.fault))
      = some (7, some (.uncheckedReadOutOfRange 2 0)) := by decide

/-- spec/43_console.md R183: `"abc"`, `"def"` become `"def"` and a blank row. -/
theorem test_scroll_rows :
    cell (scrollGrid { small with grid := [(0xB8008, 0x65), (0xB8009, 0x07)] }) 0 1 = (0x65, 0x07)
      ∧ cell (scrollGrid { small with grid := [(0xB8008, 0x65), (0xB8009, 0x07)] }) 1 1 = (0x20, 0x07) :=
  ⟨(cell_scrollGrid (by decide) (by decide)).trans (by decide), cell_scrollGrid (by decide) (by decide)⟩
theorem test_scroll_keeps_the_cursor :
    after (exec .scroll { small with row := 1, col := 1, hwcur := 4 }) (fun s => (s.row, s.col, s.hwcur, s.r0))
      = some (1, 1, 4, 0) := by decide

/-- spec/95_test_vectors.md 2.1: nothing but `R0`. -/
theorem test_reserved :
    after (exec (.reserved 0xFF) { installed with a0 := 5, r1 := 6 }) (fun s => (s.r0, s.r1, s.a0, s.out, s.fault))
      = some (0xFFFFFFFF, 6, 5, [], none) := by decide

/-- spec/95_test_vectors.md 2.2 and 2.3. -/
theorem test_intTimer :
    after (exec (.intTimer 0xFF) { installed with ticks := 41, cb := 0x2000 }) (fun s => (s.ticks, s.out, s.ie))
      = some (42, [.callback 0x2000 42, .ack 0x20], true) := by decide
theorem test_intTimer_wraps :
    after (exec (.intTimer 0) { installed with ticks := 255 }) (fun s => (s.ticks, s.out)) = some (0, [.ack 0x20]) := by
  decide

/-- spec/95_test_vectors.md 2.2: (3, 1, 2), and the full ring (2, 2, 4). -/
theorem test_intKbd :
    after (exec (.intKbd 0x55) { installed with khead := 2, ktail := 2, kcount := 4 })
      (fun s => (s.khead, s.ktail, s.kcount, s.kbuf.length, s.out)) = some (2, 2, 4, 0, [.ack 0x21]) := by decide
theorem test_intKbd_stores : kbufRead (kbdPush 0x1E { installed with khead := 3, ktail := 1, kcount := 2 }) 3 = 0x1E := by
  rw [kbdPush_room (by decide)]
  exact (kbufRead_kbufWrite 3 3 0x1E _).trans (if_pos rfl)

/-- spec/40_dispatch.md R126 example, with vector 5; spec/95_test_vectors.md 2.2 for the not-present gate. -/
theorem test_intOther_diag :
    after (exec (.intOther 5 0) { misconfigured with ticks := 5, kcount := 2 }) (fun s => (s.out, s.ticks, s.kcount, s.fault))
      = some ([.diag 5], 5, 2, none) := by decide
theorem test_intOther_faults :
    after (exec (.intOther 0x27 0) installed) (fun s => (s.out, s.fault)) = some ([], some (.gateNotPresent 0x27)) := by
  decide

/-! ### The command port -/

/-- The registers read back at their offsets (spec/30_encoding.md R100). -/
theorem test_bus_reads :
    [0x04, 0x08, 0x0C, 0x10, 0x14, 0x18].map (fun a =>
        after (step { withOperands small 1 2 3 4 with r0 := 5, r1 := 6, inbox := [.read a] }) (·.busData))
      = [some 1, some 2, some 3, some 4, some 5, some 6] := by decide

/-- A write of `R0` or `R1` is ignored, an address beside the port is refused (spec/30_encoding.md R100). -/
theorem test_bus_writes :
    after (step { small with r0 := 5, inbox := [.write 0x14 9] }) (·.r0) = some 5
      ∧ after (step { small with inbox := [.write 0x0C 9] }) (·.a2) = some 9
      ∧ isNext (step { small with inbox := [.write 0x1C 9] }) = false := by decide

/-- An empty inbox: the block idles (log entry 2). -/
theorem test_idle : after (step small) (fun s => s == small) = some true := by decide

/-! ### Witnesses: for each statement with hypotheses, a state and operands that meet them, clause by clause -/

theorem witness_DecodeInvertsEncode :
    configOk refConfig = true ∧ wellFormed refConfig (.intOther 0x22 0xFF) = true
      ∧ wellFormed refConfig (.reserved 0x2C) = true ∧ wellFormed refConfig .scroll = true := by decide

theorem witness_EncodeInvertsDecode :
    decodeBytes refConfig .event [0x21, 0x1E, 0x07] = .ok (.intKbd 0x1E, [0x07])
      ∧ decodeBytes refConfig .command [0x2C] = .ok (.reserved 0x2C, []) := ⟨rfl, rfl⟩

theorem witness_StepRunsTheDecodedInstruction :
    ({ small with inbox := [.event 0x1E21] } : State).inbox = .event 0x1E21 :: []
      ∧ ({ small with inbox := [.write small.cfg.cmdBase 0x23] } : State).inbox = .write small.cfg.cmdBase 0x23 :: []
      ∧ 255 < 256 := ⟨rfl, rfl, by decide⟩

/-- Readiness does not depend on the inbox, so each clause's input can be put in front of a ready state. -/
theorem witness_CommandPortBusView (x : Input) :
    ready { small with inbox := [x] } = true ∧ ({ small with inbox := [x] } : State).inbox = x :: [] :=
  ⟨show ready small = true by decide, rfl⟩

theorem witness_FaultedStateTakesNoStep :
    ({ small with fault := some (.gateNotPresent 0x27) } : State).fault = some (.gateNotPresent 0x27) := rfl

theorem witness_ModelFaultsAreSetExactlyWhenTheSpecSays :
    (∃ t, exec (.intTimer 0) { small with ie := true } = .next t)
      ∧ (∃ t, exec (.intOther 0x22 0) installed = .next t)
      ∧ (∃ t, exec .readCharacterAt (withOperands small 2 0 0 0) = .next t)
      ∧ ∃ t, exec .readCharacterAt (withOperands small 1 2 0 0) = .next t :=
  ⟨exists_next (by decide), exists_next (by decide), exists_next (by decide), exists_next (by decide)⟩

theorem witness_InstallInterruptsProgramsTheTable :
    ready small = true ∧ ready State.reset = true ∧ 33 < small.cfg.nvec := by decide

theorem witness_ReinstallationKeepsTheTable : ∃ t, exec .installInterrupts small = .next t :=
  exists_next (by decide)

theorem witness_GateEntriesLieLittleEndian :
    33 < small.cfg.nvec ∧ 7 < 8 ∧ 0x000FFFFF < small.cfg.idtBase.toNat
      ∧ small.cfg.idtBase.toNat + 8 * small.cfg.nvec ≤ 0x00100110 := by decide

theorem witness_InstallTimerStoresTheCallback : ready { small with a0 := 0xFFFFFFFF } = true := by decide

theorem witness_GetTicksReturnsTheCounter :
    ready { small with ticks := 255 } = true ∧ ready { State.reset with ticks := 0xFFFFFFFF } = true := by decide

theorem witness_EveryTimerEventReportsItsTick :
    after (exec .installTimer { installed with a0 := 0x2000 }) (fun t => decide (Deliverable t t.cfg.vecTimer
      ∧ ([0, 0xFF, 1] : List Byte).length < 2 ^ t.cfg.tickWidth)) = some true ∧ (0x2000 : Word) ≠ 0 := by decide

theorem witness_InstallCommandsCommuteUpToTheTrace : ready small = true := by decide

theorem witness_ReadCharacterPollsOneByte :
    ready small = true ∧ small.kcount = 0
      ∧ ready { small with kcount := 4, ktail := 3, khead := 3 } = true
      ∧ 0 < ({ small with kcount := 4, ktail := 3, khead := 3 } : State).kcount := by decide

theorem witness_PartialSequenceReadsAsNone :
    ready small = true ∧ small.kcount = 0
      ∧ ready { small with kbuf := [(3, 0xE0)], ktail := 3, kcount := 1 } = true
      ∧ kbufRead { small with kbuf := [(3, 0xE0)], ktail := 3, kcount := 1 } 3 = small.cfg.augPrefix := by decide

theorem witness_RingIsFirstInFirstOut :
    RingInv { small with kcount := 3, ktail := 2, khead := 1 }
      ∧ RingInv { small with kcount := 4, ktail := 3, khead := 3 }
      ∧ liveBytes { small with kbuf := [(0, 0x11), (3, 0x10)], ktail := 3, kcount := 2, khead := 1 } = [0x10, 0x11]
      ∧ liveBytes small = [] := by decide

theorem witness_FullRingDropsTheNewestAndDrainsInOrder :
    RingInv { small with khead := 3, ktail := 3 } ∧ small.kcount = 0
      ∧ ([0x10, 0x11, 0x12, 0x13] : List Byte).length = small.cfg.kbufCap := by decide

theorem witness_NewlineAdvancesOrScrollsOnce :
    ready { small with a0 := 0x10A } = true ∧ (0x10A : Word).extractLsb' 0 8 = 0x0A ∧ small.row + 1 < small.cfg.rows
      ∧ ready { small with a0 := 0x10A, row := 1, col := 2 } = true ∧ 1 + 1 = small.cfg.rows := by decide

theorem witness_CarriageReturnGoesToColumnZero :
    ready { small with a0 := 0x0D, row := 1, col := 2 } = true ∧ (0x0D : Word).extractLsb' 0 8 = 0x0D := by decide

theorem witness_BackspaceBlanksThePrecedingCell :
    ready { small with a0 := 0x08 } = true ∧ ready { small with a0 := 0x08, row := 1 } = true
      ∧ (0x08 : Word).extractLsb' 0 8 = 0x08 := by decide

theorem witness_PrintingByteFillsTheCursorCell :
    ready { small with a0 := 0x41, row := 1, col := 1 } = true ∧ ready { small with a0 := 0x41, col := 2 } = true
      ∧ (0x41 : Word).extractLsb' 0 8 ∉ [0x0A, 0x0D, 0x08] ∧ 1 + 1 < small.cfg.cols
      ∧ small.row + 1 < small.cfg.rows := by decide

theorem witness_PrintingAtTheLastCellScrolls :
    ready { small with a0 := 0xFF, row := 1, col := 2 } = true ∧ (0xFF : Word).extractLsb' 0 8 ∉ [0x0A, 0x0D, 0x08]
      ∧ 2 + 1 = small.cfg.cols ∧ 1 + 1 = small.cfg.rows := by decide

theorem witness_PutStringIsPutCharacterOfEachByte :
    ready (withOperands small 0 5 0 0) = true ∧ ready (withOperands small 0x5000 0xFFFFFFFB 0 0) = true
      ∧ (0xFFFFFFFB : Word).toInt ≤ 0 ∧ ready (withOperands small 0xFFFFFFFF 1 0 0) = true
      ∧ (0xFFFFFFFF : Word) ≠ 0 ∧ (1 : Word).toInt = (0 : Nat) + 1 ∧ (2 : Word).toInt = (1 : Nat) + 1 := by decide

theorem witness_PutStringFillsTheRowInOrder :
    ready { withOperands small 0x5000 2 0 0 with client := [(0x5000, 0x48), (0x5001, 0x00)] } = true
      ∧ (0x5000 : Word) ≠ 0 ∧ (2 : Word).toInt = (2 : Nat) ∧ small.col + 2 < small.cfg.cols
      ∧ ∀ i < 2, clientRead { withOperands small 0x5000 2 0 0 with client := [(0x5000, 0x48), (0x5001, 0x00)] }
          (0x5000 + BitVec.ofNat 32 i) ∉ [0x0A, 0x0D, 0x08] := by decide

theorem witness_SetColorChecksAndGetColorReflects :
    ready { small with a0 := 255 } = true ∧ 0 ≤ (255 : Word).toInt ∧ (255 : Word).toInt < 256
      ∧ ready { small with a0 := 256 } = true ∧ 256 ≤ (256 : Word).toInt
      ∧ ready { small with a0 := 0xFFFFFFFF } = true ∧ (0xFFFFFFFF : Word).toInt < 0 := by decide

theorem witness_SetCursorValidatesBothCoordinates :
    ready (withOperands small 1 2 0 0) = true ∧ (1 : Word).toInt = (1 : Nat) ∧ (2 : Word).toInt = (2 : Nat)
      ∧ 1 < small.cfg.rows ∧ 2 < small.cfg.cols
      ∧ ready (withOperands small 1 3 0 0) = true ∧ (small.cfg.cols : Int) ≤ (3 : Word).toInt
      ∧ ready (withOperands small 0xFFFFFFFF 0 0 0) = true ∧ (0xFFFFFFFF : Word).toInt < 0 := by decide

theorem witness_GetCursorReturnsWhatWasSet :
    ready (withOperands small 1 2 0 0) = true ∧ 0 ≤ (1 : Word).toInt ∧ (1 : Word).toInt < small.cfg.rows
      ∧ 0 ≤ (2 : Word).toInt ∧ (2 : Word).toInt < small.cfg.cols := by decide

theorem witness_HideAndShowSetTheHardwareCursor : ready { small with row := 1, col := 2 } = true := by decide

theorem witness_HardwareCursorRendersTheLogicalCursor :
    configOk smallConfig = true ∧ CursorInv { small with row := 1, col := 2 }
      ∧ HwCursorInv { small with row := 1, col := 2, hwcur := 5 }
      ∧ HwCursorInv { small with row := 1, col := 2, hidden := true, hwcur := 6 } := by decide

theorem witness_ScrollShiftsRowsUp :
    ready small = true ∧ 1 < small.cfg.rows ∧ 2 < small.cfg.cols ∧ ¬ InGridSpace small.cfg 0xB800C := by decide

theorem witness_ClearBlanksEveryCell :
    ready { small with hidden := true, hwcur := 6 } = true ∧ 1 < small.cfg.rows ∧ 2 < small.cfg.cols
      ∧ ¬ InGridSpace small.cfg 0xB7FFF := by decide

theorem witness_DrawCharacterWritesOneCheckedCell :
    ready (withOperands small 1 2 255 255) = true ∧ (255 : Word).toInt < 256 ∧ 1 < small.cfg.rows ∧ 2 < small.cfg.cols
      ∧ ready { withOperands small 1 2 256 255 with cfg := { smallConfig with drawChCheck := .truncate } } = true
      ∧ ready (withOperands small 1 2 256 255) = true ∧ smallConfig.drawChCheck = .check ∧ 256 ≤ (256 : Word).toInt
      ∧ ready (withOperands small 2 2 0 0) = true ∧ (small.cfg.rows : Int) ≤ (2 : Word).toInt := by decide

theorem witness_ReadCharacterAtReadsOrFaults :
    ready (withOperands small 1 2 0 0) = true ∧ (1 : Word).toInt = (1 : Nat) ∧ (2 : Word).toInt = (2 : Nat)
      ∧ 1 < small.cfg.rows ∧ 2 < small.cfg.cols
      ∧ ready (withOperands small 0 3 0 0) = true ∧ (small.cfg.cols : Int) ≤ (3 : Word).toInt := by decide

theorem witness_ReservedOpcodeReturnsErrInval :
    ready small = true ∧ isReservedOpcode 0x00 = true ∧ isReservedOpcode 0x2C = true ∧ isReservedOpcode 0xFF = true := by
  decide

theorem witness_TimerEventCountsAndAcknowledges :
    ready { installed with ticks := 255, cb := 0x2000 } = true ∧ Deliverable installed installed.cfg.vecTimer
      ∧ ready { small with ie := true } = true ∧ small.idtLoaded = false
      ∧ gatePresent (gateAt { small with ie := true } small.cfg.vecTimer.toNat) = false := by decide

theorem witness_KeyboardEventPushesOrDrops :
    ready installed = true ∧ Deliverable installed installed.cfg.vecKbd ∧ installed.kcount < installed.cfg.kbufCap
      ∧ ready { installed with kcount := 4 } = true ∧ Deliverable { installed with kcount := 4 } installed.cfg.vecKbd
      ∧ 4 = installed.cfg.kbufCap
      ∧ ready { small with ie := true, idtLoaded := true } = true
      ∧ gatePresent (gateAt { small with ie := true, idtLoaded := true } small.cfg.vecKbd.toNat) = false := by decide

theorem witness_UnknownVectorIsDiagnosed :
    ready misconfigured = true ∧ isOtherVector misconfigured.cfg 5 = true ∧ Deliverable misconfigured 5
      ∧ misconfigured.ie = true ∧ isOtherVector misconfigured.cfg 0x22 = true
      ∧ gatePresent (gateAt misconfigured 0x22) = false
      ∧ ready { misconfigured with idtLoaded := false } = true := by decide

theorem witness_InstalledTableFaultsOnOtherVectors :
    ready installed = true ∧ Installed installed ∧ installed.ie = true ∧ isOtherVector installed.cfg 0x1F = true
      ∧ isOtherVector installed.cfg 0xFF = true := by decide

theorem witness_DisabledEventsHaveNoEffect : ready small = true ∧ small.ie = false := by decide

theorem witness_OneAcknowledgePerServicedEvent :
    (∃ t, exec (.intTimer 0) installed = .next t) ∧ Deliverable installed installed.cfg.vecTimer
      ∧ (∃ t, exec (.intKbd 0) installed = .next t) ∧ Deliverable installed installed.cfg.vecKbd
      ∧ (∃ t, exec (.intOther 5 0) misconfigured = .next t)
      ∧ wellFormed misconfigured.cfg (.intOther 5 0) = true :=
  ⟨exists_next (by decide), by decide, exists_next (by decide), by decide, exists_next (by decide), by decide⟩

theorem witness_ResetIsWellFormed : configOk smallConfig = true := by decide

theorem witness_EveryStepKeepsWellFormedness :
    WF installed ∧ WF small ∧ (∃ t, step (installed.withFetchWord 16 0x0020) = .next t)
      ∧ ∃ t, step (small.withFetchWord 8 0x28) = .next t :=
  ⟨by decide, by decide, exists_next (by decide), exists_next (by decide)⟩

theorem witness_EveryStepKeepsReadiness : ∃ t, step (small.withFetchWord 8 0x01) = .next t := exists_next (by decide)

theorem witness_EveryStepKeepsStoresCanonical :
    StoresWf { installed with kbuf := [] } ∧ ∃ t, step (installed.withFetchWord 16 0x1E21) = .next t :=
  ⟨⟨Store.wf_nil _, Store.wf_nil _, Store.wf_nil _, by decide⟩, exists_next (by decide)⟩

theorem witness_CanonicalMemoriesWithEqualReadsAreEqual :
    Memory.wf (fun _ => 0) [(1, 5), (4, 9)] ∧ ∀ a, Store.read (fun _ => 0) [(1, (5 : Byte)), (4, 9)] a
      = Store.read (fun _ => 0) [(1, 5), (4, 9)] a := ⟨by decide, fun _ => rfl⟩

theorem witness_NoStepChangesParametersOrClientMemory : ∃ t, step (small.withFetchWord 8 0x21) = .next t :=
  exists_next (by decide)

theorem witness_RegistersChangeOnlyByTheirOwners :
    (∃ t, exec .scroll small = .next t) ∧ ∃ t, exec (.intTimer 0) installed = .next t :=
  ⟨exists_next (by decide), exists_next (by decide)⟩

theorem witness_TickCounterChangesOnlyByTheTimer :
    (∃ t, exec (.intKbd 0) installed = .next t) ∧ wellFormed installed.cfg (.intKbd 0) = true :=
  ⟨exists_next (by decide), by decide⟩

theorem witness_RingIsOwnedByProducerAndConsumer :
    (∃ t, exec .installInterrupts small = .next t) ∧ wellFormed small.cfg .installInterrupts = true :=
  ⟨exists_next (by decide), by decide⟩

theorem witness_ConsoleIsTouchedByConsoleCommandsOnly :
    (∃ t, exec (.intKbd 0) installed = .next t) ∧ isConsoleCommand (.intKbd 0) = false
      ∧ (∃ t, exec .putCharacter installed = .next t) ∧ isConsoleCommand .putCharacter = true :=
  ⟨exists_next (by decide), by decide, exists_next (by decide), by decide⟩

theorem witness_OutputTraceOnlyGrows : ∃ t, step (installed.withFetchWord 16 0x0021) = .next t :=
  exists_next (by decide)

theorem witness_FlagsChangeOnlyByTheirSetters :
    (∃ t, step (installed.withFetchWord 8 0x01) = .next t) ∧ installed.ie = true ∧ installed.idtLoaded = true
      ∧ installed.timerArmed = true ∧ (∃ t, exec .clear { small with hidden := true } = .next t)
      ∧ ∃ t, exec .installTimer { small with a0 := 100 } = .next t :=
  ⟨exists_next (by decide), rfl, rfl, rfl, exists_next (by decide), exists_next (by decide)⟩

theorem witness_GateTableChangesOnlyByInstallation : ∃ t, exec .installTimer installed = .next t :=
  exists_next (by decide)

theorem witness_NoStepWritesOutsideTheGrid :
    (∃ t, step (small.withFetchWord 8 0x2B) = .next t) ∧ ¬ InGridSpace small.cfg 0xB7FFF
      ∧ ¬ InGridSpace small.cfg 0xB800C := ⟨exists_next (by decide), by decide, by decide⟩

theorem witness_ConsoleCommandsCommuteWithEvents :
    isConsoleCommand .setCursor = true ∧ Deliverable installed installed.cfg.vecTimer
      ∧ Deliverable installed installed.cfg.vecKbd ∧ isNext (exec .setCursor installed) = true
      ∧ isNext (thenExec (exec .setCursor installed) (.intTimer 0)) = true
      ∧ isNext (thenExec (exec .setCursor installed) (.intKbd 0)) = true := by decide

end Sys2Proof.Tests
end

namespace Sys2Proof.Machine

/-! ## The packed gate

The fields of a gate that `makeGate` packs (spec/40_dispatch.md R120), that such a gate is legal
(spec/10_state.md R27), and the gate invariant of the table INSTALL_INTERRUPTS writes (R28). -/

/-- Where each bit of a packed gate comes from, the bits of R27's layout in ascending order. -/
theorem getLsbD_makeGate (cfg : Config) (entry : Word) (k : Nat) (hk : k < 64) :
    (makeGate cfg entry).getLsbD k =
      if k < 16 then entry.getLsbD k
      else if k < 32 then cfg.codeSel.getLsbD (k - 16)
      else if k < 40 then false
      else if k < 44 then (gateTypeBits cfg.gateType).getLsbD (k - 40)
      else if k = 44 then false
      else if k < 47 then cfg.gateDpl.getLsbD (k - 45)
      else if k = 47 then true
      else entry.getLsbD (k - 32) := by
  interval_cases k <;> simp [makeGate]

theorem gatePresent_makeGate (cfg : Config) (entry : Word) : gatePresent (makeGate cfg entry) = true :=
  getLsbD_makeGate cfg entry 47 (by decide)

theorem gateS_makeGate (cfg : Config) (entry : Word) : gateS (makeGate cfg entry) = false :=
  getLsbD_makeGate cfg entry 44 (by decide)

theorem gateReserved_makeGate (cfg : Config) (entry : Word) : gateReserved (makeGate cfg entry) = 0 := by
  ext i hi
  rw [gateReserved, BitVec.getElem_extractLsb', getLsbD_makeGate _ _ _ (by omega), if_neg (by omega), if_neg (by omega),
    if_pos (by omega)]
  simp

theorem gateType_makeGate (cfg : Config) (entry : Word) :
    gateType (makeGate cfg entry) = gateTypeBits cfg.gateType := by
  ext i hi
  rw [gateType, BitVec.getElem_extractLsb', getLsbD_makeGate _ _ _ (by omega), if_neg (by omega), if_neg (by omega),
    if_neg (by omega), if_pos (by omega), Nat.add_sub_cancel_left, BitVec.getLsbD_eq_getElem]

/-- The entry point is split over the two ends of the gate, and `gateEntry` joins the halves again. -/
theorem gateEntry_makeGate (cfg : Config) (entry : Word) : gateEntry (makeGate cfg entry) = entry := by
  ext i hi
  rw [gateEntry, BitVec.getElem_append, gateOffLo, gateOffHi, ← BitVec.getLsbD_eq_getElem (x := entry)]
  split
  · rw [BitVec.getElem_extractLsb', getLsbD_makeGate _ _ _ (by omega), if_pos (by omega), Nat.zero_add]
  · have hbit : 48 + (i - 16) - 32 = i := by omega
    rw [BitVec.getElem_extractLsb', getLsbD_makeGate _ _ _ (by omega), hbit]
    iterate 7 rw [if_neg (by omega)]

/-- What `makeGate` packs has a legal type and zeros in the reserved bits, whatever its entry point. -/
theorem gateLegal_makeGate (cfg : Config) (entry : Word) : gateLegal (makeGate cfg entry) = true := by
  have htype : gateTypeBits cfg.gateType = interruptGateType ∨ gateTypeBits cfg.gateType = trapGateType := by
    cases cfg.gateType
    · exact .inl rfl
    · exact .inr rfl
  simp [gateLegal, gateType_makeGate, gateReserved_makeGate, gateS_makeGate, htype]

/-- After INSTALL_INTERRUPTS exactly the two entries are present, each with its own entry point (R28). -/
theorem gateInv_installed {s t : State} (hc : ConfigFacts s.cfg) (hcfg : t.cfg = s.cfg)
    (hgates : t.gates = (installGates s).gates) : GateInv t := by
  have hat (v : Nat) : gateAt t v = _ := (congrArg (Store.read gateDraw · v) hgates).trans (gateAt_installGates s v)
  rw [GateInv, hcfg, hat, hat, if_pos rfl, if_neg hc.vec_ne_nat, if_pos rfl]
  refine ⟨fun v hv => ?_, gateEntry_makeGate _ _, gateEntry_makeGate _ _⟩
  rw [hat]
  split_ifs with hk ht
  · simp [hk, gatePresent_makeGate]
  · simp [ht, gatePresent_makeGate]
  · simp [hk, ht, gatePresent]

/-! ## Effects

What the instructions can do, by kind of effect instead of by instruction: `exec_effect` ties the kinds to
`exec`, and the invariants and frames of every step are read off them. -/

/-! ### The ring -/

/-- `t`'s ring has its elements in their types, and R32's equation for the head if `s`'s ring had it. -/
structure RingKept (s t : State) : Prop where
  head : t.khead < s.cfg.kbufCap
  tail : t.ktail < s.cfg.kbufCap
  count : t.kcount ≤ s.cfg.kbufCap
  equation : s.khead = (s.ktail + s.kcount) % s.cfg.kbufCap → t.khead = (t.ktail + t.kcount) % s.cfg.kbufCap

theorem RingKept.refl {s : State} (h : ready s = true) : RingKept s s := by
  obtain ⟨-, -, -, -, hhead, htail, hcount, -⟩ := ready_facts h
  exact ⟨hhead, htail, hcount, id⟩

theorem RingKept.ringInv {s t : State} (h : RingKept s t) (hcfg : t.cfg = s.cfg) (hs : RingInv s) : RingInv t := by
  obtain ⟨-, -, -, heq⟩ := hs
  rw [RingInv, hcfg]
  exact ⟨h.count, h.head, h.tail, h.equation heq⟩

/-- A push moves the head on and counts one more, or does nothing. -/
theorem ringKept_kbdPush {s : State} (d : Byte) (h : ready s = true) : RingKept s (kbdPush d s) := by
  by_cases hroom : s.kcount < s.cfg.kbufCap
  · obtain ⟨-, hc, -, -, -, htail, -⟩ := ready_facts h
    rw [kbdPush_room hroom]
    refine ⟨nextIndex_lt hc.cap_pos _, htail, hroom, fun heq => ?_⟩
    simp only [nextIndex, kbufWrite_ktail]
    rw [heq, Nat.mod_add_mod, Nat.add_assoc]
  · rw [kbdPush_full hroom]
    exact .refl h

/-- The state after a poll that consumes a byte. -/
theorem pollKey_byte_state {s : State} (h : 0 < s.kcount) :
    ∃ aug, (pollKey s).2 = { s with ktail := nextIndex s.cfg s.ktail, kcount := s.kcount - 1, decAug := aug } := by
  rw [pollKey_byte h, decodeStep]
  split <;> exact ⟨_, rfl⟩

/-- A poll moves the tail on and counts one less, or does nothing. -/
theorem ringKept_pollKey {s : State} (h : ready s = true) : RingKept s (pollKey s).2 := by
  by_cases hbyte : 0 < s.kcount
  · obtain ⟨-, hc, -, -, hhead, -, hcount, -⟩ := ready_facts h
    obtain ⟨aug, he⟩ := pollKey_byte_state hbyte
    rw [he]
    refine ⟨hhead, nextIndex_lt hc.cap_pos _, by dsimp only; omega, fun heq => ?_⟩
    have hshift : s.ktail + 1 + (s.kcount - 1) = s.ktail + s.kcount := by omega
    simp only [nextIndex]
    rw [Nat.mod_add_mod, hshift, heq]
  · rw [pollKey_empty (by omega)]
    exact .refl h

/-! ### The hardware cursor -/

/-- What changes the grid only keeps the hardware cursor equation. -/
theorem GridStep.hwCursorInv {s t : State} (h : GridStep s t) (hs : HwCursorInv s) : HwCursorInv t := by
  rw [h.rest]
  exact hs

/-! ### The kinds of effect -/

/-- What an instruction may do to a ready state, by kind. -/
inductive Effect (s : State) : Instr → State → Prop
  /-- INSTALL_INTERRUPTS, field by field. -/
  | installed : Effect s .installInterrupts { s with
      gates := (installGates s).gates, idtr := ⟨s.cfg.idtBase, idtLimit s.cfg⟩, idtLoaded := true
      timerArmed := true, ie := true, r0 := 0
      out := s.out ++ [.idtLoad s.cfg.idtBase (idtLimit s.cfg), .timerProgram s.cfg.timerDivisor] }
  /-- INSTALL_TIMER, field by field. -/
  | timerInstalled : Effect s .installTimer { s with
      timerArmed := true, cb := s.a0, ticks := 0, r0 := 0, out := s.out ++ [.timerProgram s.cfg.timerDivisor] }
  /-- READ_CHARACTER: the consumer's side of the ring and the decoder flag. -/
  | polled (v : Word) (tail count : Nat) (aug : Bool)
      (ring : RingKept s { s with ktail := tail, kcount := count, decAug := aug }) :
      Effect s .readCharacter { s with r0 := v, ktail := tail, kcount := count, decAug := aug }
  /-- GET_CURSOR writes both result registers. -/
  | cursorRead (v w : Word) : Effect s .getCursor { s with r0 := v, r1 := w }
  /-- A command that gives a result and does nothing else. -/
  | answered {i : Instr} (command : carrierOf i = .command) (v : Word) : Effect s i (setR0 v s)
  /-- SET_COLOR with a colour it accepts. -/
  | coloured (v : Word) (b : Byte) : Effect s .setColor { s with r0 := v, color := b }
  /-- HIDE_CURSOR and SHOW_CURSOR. -/
  | hiddenSet {i : Instr} (owner : i = .hideCursor ∨ i = .showCursor) (v : Word) (b : Bool) :
      Effect s i (setR0 v (syncHw (setHidden b s)))
  /-- A command that moves the cursor or writes cells. -/
  | displayed {i : Instr} (command : carrierOf i = .command) (v : Word) {u : State} (screen : ScreenStep s u)
      (hwCursor : HwCursorInv s → HwCursorInv u) : Effect s i (setR0 v u)
  /-- An event that is delivered: the tick counter, the producer's side of the ring, the outputs. -/
  | served {i : Instr} (event : carrierOf i = .event) (ticks head count : Nat) (kbuf : Memory)
      (es : List OutEvent) (inWidth : ticks < 2 ^ s.cfg.tickWidth)
      (ring : RingKept s { s with kbuf := kbuf, khead := head, kcount := count }) :
      Effect s i { s with ticks := ticks, kbuf := kbuf, khead := head, kcount := count, out := s.out ++ es }
  /-- An event while delivery is off. -/
  | ignored {i : Instr} (event : carrierOf i = .event) : Effect s i s
  /-- The model fault, of an event or of READ_CHARACTER_AT. -/
  | faulted {i : Instr} (f : Fault) : Effect s i (raiseFault f s)

/-- `TimerHandler` writes the next tick and appends to the output trace. -/
theorem timerHandler_appends (s : State) :
    ∃ es, timerHandler s = { s with ticks := nextTick s.cfg s.ticks, out := s.out ++ es } := by
  rw [timerHandler_eq]
  split
  · exact ⟨[], by rw [List.append_nil]⟩
  · exact ⟨_, rfl⟩

/-- A delivered event, whatever its vector. -/
theorem effect_dispatch {s : State} {i : Instr} (event : carrierOf i = .event) (v d : Byte) (h : ready s = true) :
    Effect s i (dispatch v d s) := by
  obtain ⟨-, -, -, -, -, -, -, hticks, -⟩ := ready_facts h
  unfold dispatch
  split
  · obtain ⟨es, he⟩ := timerHandler_appends s
    rw [he, acknowledge, emit, List.append_assoc]
    exact .served event _ _ _ _ _ (nextTick_lt _ _) (.refl h)
  · split
    · rw [kbdHandler]
      have hring := ringKept_kbdPush d h
      rw [kbdPush_rest] at hring ⊢
      exact .served event _ _ _ _ _ hticks hring
    · exact .served event _ _ _ _ _ hticks (.refl h)

/-- An event step is a delivered, an ignored or a faulting one. -/
theorem effect_takeEvent {s t : State} {i : Instr} (event : carrierOf i = .event) {v d : Byte}
    (h : takeEvent v d s = .next t) : Effect s i t := by
  obtain ⟨hr, ⟨-, rfl⟩ | ⟨-, -, rfl⟩ | ⟨-, rfl⟩⟩ := takeEvent_cases h
  · exact .ignored event
  · exact .faulted _
  · exact effect_dispatch event v d hr

/-- An operation on the screen followed by `SyncHw`. -/
theorem effect_synced {s u : State} {i : Instr} (command : carrierOf i = .command) (v : Word) (h : ScreenStep s u) :
    Effect s i (setR0 v (syncHw u)) :=
  .displayed command v (h.trans (screenStep_syncHw h.cursor)) fun _ => hwCursorInv_syncHw u

/-- PUT_STRING's loop keeps the hardware cursor equation: each pass ends with `SyncHw`. -/
theorem hwCursorInv_putString {s : State} (base : Word) (n : Nat) (h : HwCursorInv s) :
    HwCursorInv (forUp n (putStringByte base) s) :=
  forUp_induct (fun _ t => HwCursorInv t) h fun _ _ _ _ => hwCursorInv_syncHw _

/-- EVERY INSTRUCTION HAS ONE OF THE KINDS OF EFFECT. -/
theorem exec_effect {i : Instr} {s t : State} (h : exec i s = .next t) : Effect s i t := by
  obtain ⟨hr, he⟩ := exec_cases h
  have hcur := ready_cursor hr
  cases i with
  | installInterrupts =>
    rw [he, installInterrupts_effect]
    exact .installed
  | installTimer =>
    rw [he]
    exact .timerInstalled
  | readCharacter =>
    have hring := ringKept_pollKey hr
    rw [he, pollKey_rest]
    rw [pollKey_rest] at hring
    exact .polled _ _ _ _ hring
  | getCursor =>
    rw [he]
    exact .cursorRead _ _
  | getTicks | getColor | reserved =>
    rw [he]
    exact .answered rfl _
  | setColor =>
    obtain rfl | rfl := he
    · exact .answered rfl _
    · exact .coloured _ _
  | hideCursor =>
    rw [he]
    exact .hiddenSet (.inl rfl) _ _
  | showCursor =>
    rw [he]
    exact .hiddenSet (.inr rfl) _ _
  | putCharacter =>
    rw [he]
    exact effect_synced rfl _ (screenStep_putCh _ hcur)
  | putString =>
    obtain rfl | ⟨-, rfl⟩ := he
    · exact .answered rfl _
    · exact .displayed rfl _ (screenStep_putString _ _ hcur) (hwCursorInv_putString _ _)
  | setCursor =>
    obtain rfl | ⟨r, c, hin, rfl⟩ := he
    · exact .answered rfl _
    · obtain ⟨hrow, hcol, -⟩ := inGrid_eq_some hin
      exact effect_synced rfl _ (screenStep_setCursor hrow hcol)
  | clear =>
    have hgrid := gridStep_clearGrid s
    have hscreen := hgrid.screen hcur
    have hc := ready_config hr
    rw [he]
    exact effect_synced rfl _ (hscreen.trans
      (screenStep_setCursor (by rw [hgrid.cfg]; exact hc.rows_pos) (by rw [hgrid.cfg]; exact hc.cols_pos)))
  | drawCharacter =>
    obtain rfl | ⟨r, c, hin, rfl⟩ := he
    · exact .answered rfl _
    · obtain ⟨hrow, hcol, -⟩ := inGrid_eq_some hin
      have hgrid := gridStep_writeCell (byteOf s.a2) (byteOf s.a3) hrow hcol
      exact .displayed rfl _ (hgrid.screen hcur) hgrid.hwCursorInv
  | scroll =>
    have hgrid := gridStep_scrollGrid (ready_config hr).rows_pos
    rw [he]
    exact .displayed rfl _ (hgrid.screen hcur) hgrid.hwCursorInv
  | readCharacterAt =>
    obtain ⟨-, rfl⟩ | ⟨r, c, -, rfl⟩ := he
    · exact .faulted _
    · exact .answered rfl _
  | intTimer | intKbd | intOther => exact effect_takeEvent rfl he

/-- A step runs an instruction with the rest of the inbox left, or is a bus access, which writes no more than the
operand registers and the model's own fields. -/
theorem step_exec_or_bus {s t : State} (h : step s = .next t) :
    (∃ i rest, exec i { s with inbox := rest } = .next t)
      ∨ ready s = true ∧ ∃ inbox busData draws a0 a1 a2 a3, t = { s with
          inbox := inbox, busData := busData, draws := draws, a0 := a0, a1 := a1, a2 := a2, a3 := a3 } := by
  obtain ⟨hr, ⟨-, rfl⟩ | hexec | ⟨r, v, rest, rfl⟩ | ⟨rest, rfl⟩ | ⟨r, rest, rfl⟩⟩ := step_cases h
  · exact .inr ⟨hr, _, _, _, _, _, _, _, rfl⟩
  · exact .inl hexec
  · unfold writeOperand
    split <;> exact .inr ⟨hr, _, _, _, _, _, _, _, rfl⟩
  · exact .inr ⟨hr, _, _, _, _, _, _, _, rfl⟩
  · exact .inr ⟨hr, _, _, _, _, _, _, _, rfl⟩

/-! ## Invariants of every step (spec/10_state.md R20, R28, R32, R34, R38, R47) -/

/-! ### Well-formedness -/

/-- A screen step that leaves the hardware cursor equation leaves a well-formed state well formed. -/
theorem ScreenStep.wfState {s t : State} (h : ScreenStep s t) (hhw : HwCursorInv t) (hw : WF s) : WF t := by
  obtain ⟨hf, hring, -, -, hinst⟩ := hw
  have hcur := h.cursor
  rw [h.rest] at hcur hhw ⊢
  exact ⟨hf, hring, hcur, hhw, hinst⟩

theorem Effect.keeps_wf {i : Instr} {s t : State} (he : Effect s i t) (hr : ready s = true) (hw : WF s) :
    WF t ∨ t.fault ≠ none := by
  have hwf := hw
  obtain ⟨hf, hring, hcur, hhw, hinst⟩ := hw
  cases he with
  | installed => exact .inl ⟨hf, hring, hcur, hhw, .inr ⟨rfl, gateInv_installed (ready_config hr) rfl rfl⟩⟩
  | polled _ _ _ _ ring => exact .inl ⟨hf, ring.ringInv rfl hring, hcur, hhw, hinst⟩
  | served _ _ _ _ _ _ _ ring => exact .inl ⟨hf, ring.ringInv rfl hring, hcur, hhw, hinst⟩
  | hiddenSet _ _ _ => exact .inl ⟨hf, hring, hcur, hwCursorInv_syncHw _, hinst⟩
  | displayed _ _ screen hwCursor => exact .inl (screen.wfState (hwCursor hhw) hwf)
  | faulted f => exact .inr (Option.some_ne_none f)
  | timerInstalled | cursorRead | answered | coloured | ignored => exact .inl hwf

/-- Settles O46: what an instruction does is read off its kind of effect, and a bus access writes nothing `WF` reads. -/
theorem everyStepKeepsWellFormedness : Obligations.EveryStepKeepsWellFormedness := by
  intro s t hw h
  obtain ⟨i, rest, hexec⟩ | ⟨-, inbox, busData, draws, a0, a1, a2, a3, rfl⟩ := step_exec_or_bus h
  · exact (exec_effect hexec).keeps_wf (exec_ready hexec) hw
  · exact .inl hw

/-! ### Readiness -/

/-- Every entry of the table after INSTALL_INTERRUPTS lies below `NVEC` and is legal. -/
theorem installGates_legal {s : State} (hc : ConfigFacts s.cfg) (hkeys : ∀ e ∈ s.gates, e.1 < s.cfg.nvec)
    (hlegal : ∀ e ∈ s.gates, gateLegal e.2 = true) :
    (∀ e ∈ (installGates s).gates, e.1 < s.cfg.nvec) ∧ ∀ e ∈ (installGates s).gates, gateLegal e.2 = true :=
  ⟨forall_installGates hkeys (fun _ hv => hv) hc.timer_in hc.kbd_in,
    forall_installGates hlegal (fun _ _ => rfl) (gateLegal_makeGate _ _) (gateLegal_makeGate _ _)⟩

theorem Effect.keeps_ready {i : Instr} {s t : State} (he : Effect s i t) (hr : ready s = true) :
    ready t = true ∨ t.fault ≠ none := by
  obtain ⟨hf, hc, hrow, hcol, hhead, htail, hcount, hticks, hkeys, hlegal⟩ := ready_facts hr
  cases he with
  | installed =>
    exact .inl (ready_congr hr hf rfl hrow hcol hhead htail hcount hticks (installGates_legal hc hkeys hlegal))
  | timerInstalled =>
    exact .inl (ready_congr hr hf rfl hrow hcol hhead htail hcount (Nat.two_pow_pos _) ⟨hkeys, hlegal⟩)
  | polled _ _ _ _ ring =>
    exact .inl (ready_congr hr hf rfl hrow hcol ring.head ring.tail ring.count hticks ⟨hkeys, hlegal⟩)
  | served _ _ _ _ _ _ inWidth ring =>
    exact .inl (ready_congr hr hf rfl hrow hcol ring.head ring.tail ring.count inWidth ⟨hkeys, hlegal⟩)
  | displayed _ _ screen _ => exact .inl (screen.ready hr)
  | faulted f => exact .inr (Option.some_ne_none f)
  | cursorRead | answered | coloured | hiddenSet | ignored => exact .inl hr

/-- Settles O47: a next state comes out of a ready state only, and no kind of effect but the model fault loses
readiness. -/
theorem everyStepKeepsReadiness : Obligations.EveryStepKeepsReadiness := by
  intro s t h
  obtain ⟨i, rest, hexec⟩ | ⟨hr, inbox, busData, draws, a0, a1, a2, a3, rfl⟩ := step_exec_or_bus h
  · exact (exec_effect hexec).keeps_ready (exec_ready hexec)
  · exact .inl hr

/-! ## What steps and instructions leave unchanged (spec/10_state.md R21, R22, R25, R26, R36, R40, R45) -/

/-! ### Frames of one instruction -/

theorem Effect.cfg_client {i : Instr} {s t : State} (he : Effect s i t) : t.cfg = s.cfg ∧ t.client = s.client := by
  cases he with
  | displayed _ _ screen _ => exact ⟨screen.cfg, screen.client⟩
  | _ => exact ⟨rfl, rfl⟩

theorem Effect.operands {i : Instr} {s t : State} (he : Effect s i t) :
    t.a0 = s.a0 ∧ t.a1 = s.a1 ∧ t.a2 = s.a2 ∧ t.a3 = s.a3 := by
  cases he with
  | displayed _ _ screen _ => exact ⟨screen.a0, screen.a1, screen.a2, screen.a3⟩
  | _ => exact ⟨rfl, rfl, rfl, rfl⟩

theorem Effect.r1 {i : Instr} {s t : State} (he : Effect s i t) (hi : i ≠ .getCursor) : t.r1 = s.r1 := by
  cases he with
  | cursorRead => exact absurd rfl hi
  | displayed _ _ screen _ => exact screen.r1
  | _ => rfl

theorem Effect.r0_of_event {i : Instr} {s t : State} (he : Effect s i t) (hi : carrierOf i = .event) :
    t.r0 = s.r0 := by
  cases he with
  | served | ignored | faulted => rfl
  | answered command _ => cases command.symm.trans hi
  | displayed command _ _ _ => cases command.symm.trans hi
  | hiddenSet owner _ _ => obtain rfl | rfl := owner <;> cases hi
  | installed | timerInstalled | polled | cursorRead | coloured => cases hi

theorem Effect.out_appends {i : Instr} {s t : State} (he : Effect s i t) : ∃ es, t.out = s.out ++ es := by
  cases he with
  | installed | timerInstalled | served => exact ⟨_, rfl⟩
  | displayed _ _ screen _ => exact ⟨[], by rw [List.append_nil]; exact screen.out⟩
  | _ => exact ⟨[], (List.append_nil _).symm⟩

theorem Effect.ie_idtLoaded {i : Instr} {s t : State} (he : Effect s i t) (hi : i ≠ .installInterrupts) :
    t.ie = s.ie ∧ t.idtLoaded = s.idtLoaded := by
  cases he with
  | installed => exact absurd rfl hi
  | displayed _ _ screen _ => exact ⟨screen.ie, screen.idtLoaded⟩
  | _ => exact ⟨rfl, rfl⟩

theorem Effect.timerArmed {i : Instr} {s t : State} (he : Effect s i t) (hi : i ≠ .installInterrupts)
    (ht : i ≠ .installTimer) : t.timerArmed = s.timerArmed := by
  cases he with
  | installed => exact absurd rfl hi
  | timerInstalled => exact absurd rfl ht
  | displayed _ _ screen _ => exact screen.timerArmed
  | _ => rfl

theorem Effect.hidden {i : Instr} {s t : State} (he : Effect s i t) (hh : i ≠ .hideCursor) (hs : i ≠ .showCursor) :
    t.hidden = s.hidden := by
  cases he with
  | hiddenSet owner _ _ => exact (owner.elim hh hs).elim
  | displayed _ _ screen _ => exact screen.hidden
  | _ => rfl

theorem Effect.gates_idtr {i : Instr} {s t : State} (he : Effect s i t) (hi : i ≠ .installInterrupts) :
    t.gates = s.gates ∧ t.idtr = s.idtr := by
  cases he with
  | installed => exact absurd rfl hi
  | displayed _ _ screen _ => exact ⟨screen.gates, screen.idtr⟩
  | _ => exact ⟨rfl, rfl⟩

/-- The two install commands set the flags they write, so a flag that is 1 stays 1 whatever the instruction. -/
theorem Effect.flags_stay {i : Instr} {s t : State} (he : Effect s i t) :
    (s.ie = true → t.ie = true) ∧ (s.idtLoaded = true → t.idtLoaded = true)
      ∧ (s.timerArmed = true → t.timerArmed = true) := by
  cases he with
  | installed => exact ⟨fun _ => rfl, fun _ => rfl, fun _ => rfl⟩
  | timerInstalled => exact ⟨id, id, fun _ => rfl⟩
  | displayed _ _ screen _ => exact ⟨screen.ie.trans, screen.idtLoaded.trans, screen.timerArmed.trans⟩
  | _ => exact ⟨id, id, id⟩

/-! ### The statements -/

/-- Settles O50: no kind of effect reaches the parameters or the client's memory, and neither does a bus access. -/
theorem noStepChangesParametersOrClientMemory : Obligations.NoStepChangesParametersOrClientMemory := by
  intro s t h
  obtain ⟨i, rest, hexec⟩ | ⟨-, inbox, busData, draws, a0, a1, a2, a3, rfl⟩ := step_exec_or_bus h
  · exact (exec_effect hexec).cfg_client
  · exact ⟨rfl, rfl⟩

/-- Settles O51: the operand registers, `R1` and, for an event, `R0` are in the frame of the effect. -/
theorem registersChangeOnlyByTheirOwners : Obligations.RegistersChangeOnlyByTheirOwners := fun _ _ _ h =>
  have he := exec_effect h
  ⟨he.operands, he.r1, he.r0_of_event⟩

/-- Settles O55: an effect appends to the trace, and a bus access sends nothing. -/
theorem outputTraceOnlyGrows : Obligations.OutputTraceOnlyGrows := by
  intro s t h
  obtain ⟨i, rest, hexec⟩ | ⟨-, inbox, busData, draws, a0, a1, a2, a3, rfl⟩ := step_exec_or_bus h
  · exact (exec_effect hexec).out_appends
  · exact ⟨[], (List.append_nil _).symm⟩

/-- Settles O56: the flags are set by their owners only, to 1 but for the hidden flag. -/
theorem flagsChangeOnlyByTheirSetters : Obligations.FlagsChangeOnlyByTheirSetters := by
  refine ⟨fun s t h => ?_, fun i s t h => ?_⟩
  · obtain ⟨i, rest, hexec⟩ | ⟨-, inbox, busData, draws, a0, a1, a2, a3, rfl⟩ := step_exec_or_bus h
    · exact (exec_effect hexec).flags_stay
    · exact ⟨id, id, id⟩
  · have he := exec_effect h
    exact ⟨he.ie_idtLoaded, he.timerArmed, he.hidden⟩

/-- Settles O57: the gate table and the base register are in the frame of every effect but the installation. -/
theorem gateTableChangesOnlyByInstallation : Obligations.GateTableChangesOnlyByInstallation := fun _ _ _ h hi =>
  (exec_effect h).gates_idtr hi

/-! ## The rendered cursor, the sticky fault, reset (spec/10_state.md R37, R38; R43; R44, R47) -/

/-! ### The rendered cursor -/

/-- The hidden position lies outside the grid, so a display told that position renders no cursor. -/
theorem renderedCursor_hidden {s : State} (hc : ConfigFacts s.cfg)
    (hhw : s.hwcur = BitVec.ofNat 16 (hidePos s.cfg)) : renderedCursor s = none := by
  have hsmall := hc.grid_small
  have hpos : s.hwcur.toNat = s.cfg.rows * s.cfg.cols := by
    rw [hhw, hidePos, BitVec.toNat_ofNat, Nat.mod_eq_of_lt (by omega)]
  rw [renderedCursor, if_neg (by omega)]

/-- A display told the linear position of a cell of the grid renders the cursor at that cell. -/
theorem renderedCursor_shown {s : State} (hc : ConfigFacts s.cfg) (hcur : CursorInv s)
    (hhw : s.hwcur = BitVec.ofNat 16 (linearPos s)) : renderedCursor s = some (s.row, s.col) := by
  obtain ⟨hrow, hcol⟩ := hcur
  have hlt := linear_lt hrow hcol
  have hsmall := hc.grid_small
  have hpos : s.hwcur.toNat = s.col + s.cfg.cols * s.row := by
    rw [hhw, linearPos, BitVec.toNat_ofNat, Nat.mod_eq_of_lt (by omega), Nat.mul_comm, Nat.add_comm]
  have hin : s.col + s.cfg.cols * s.row < s.cfg.rows * s.cfg.cols := by rwa [Nat.add_comm, Nat.mul_comm s.cfg.cols]
  rw [renderedCursor, hpos, if_pos hin, Nat.add_mul_div_left _ _ hc.cols_pos, Nat.div_eq_of_lt hcol, Nat.zero_add,
    Nat.add_mul_mod_self_left, Nat.mod_eq_of_lt hcol]

/-- Settles O32: one case for each value of the hidden flag. -/
theorem hardwareCursorRendersTheLogicalCursor : Obligations.HardwareCursorRendersTheLogicalCursor := by
  intro s hcfg hcur hhw
  have hc := configFacts hcfg
  rw [HwCursorInv] at hhw
  by_cases hh : s.hidden = true
  · rw [if_pos hh] at hhw ⊢
    exact renderedCursor_hidden hc hhw
  · rw [if_neg hh] at hhw ⊢
    exact renderedCursor_shown hc hcur hhw

/-! ### The sticky fault -/

/-- A fetch gives an instruction with the rest of the inbox left, or a bus access behind the guard. -/
theorem fetch_cases (s : State) :
    (∃ i rest, fetch s = .instr i { s with inbox := rest }) ∨ ∃ r, fetch s = .bus (whenReady s r) := by
  unfold fetch
  split
  · exact .inr ⟨_, rfl⟩
  · exact .inl ⟨_, _, rfl⟩
  · split
    · exact .inl ⟨_, _, rfl⟩
    all_goals exact .inr ⟨_, rfl⟩
  · split <;> exact .inr ⟨_, rfl⟩

/-- Whatever waits in the inbox, the step of a faulted state answers the fault. -/
theorem step_faulted {s : State} {f : Fault} (h : s.fault = some f) : step s = .fault f := by
  obtain ⟨i, rest, hf⟩ | ⟨r, hf⟩ := fetch_cases s <;> rw [step, hf]
  · exact exec_faulted (s := { s with inbox := rest }) h i
  · exact whenReady_faulted h r

/-- Settles O7: no instruction passes the guard of a faulted state, and neither does a bus access or an idle step. -/
theorem faultedStateTakesNoStep : Obligations.FaultedStateTakesNoStep := fun _ _ h =>
  ⟨exec_faulted h, step_faulted h⟩

/-! ### Reset -/

theorem gateAt_resetWith (cfg : Config) (v : Nat) : gateAt (State.resetWith cfg) v = 0 :=
  Store.read_nil gateDraw v

/-- Settles O44: each element is the value `State.resetWith` gives it, and an empty gate store reads as zero. -/
theorem resetLeavesTheSpecsValues : Obligations.ResetLeavesTheSpecsValues := fun cfg =>
  ⟨rfl, rfl, rfl, rfl, gateAt_resetWith cfg, rfl, rfl, rfl, rfl, rfl, rfl, rfl, rfl, rfl, rfl, rfl, rfl, rfl, rfl⟩

theorem wf_resetWith {cfg : Config} (hc : ConfigFacts cfg) : WF (State.resetWith cfg) := by
  have hring : RingInv (State.resetWith cfg) := ⟨Nat.zero_le _, hc.cap_pos, hc.cap_pos, (Nat.zero_mod _).symm⟩
  have hhw : HwCursorInv (State.resetWith cfg) := by simp [HwCursorInv, State.resetWith, linearPos]
  exact ⟨rfl, hring, ⟨hc.rows_pos, hc.cols_pos⟩, hhw, .inl ⟨rfl, rfl, fun v _ => gateAt_resetWith cfg v⟩⟩

theorem ready_resetWith {cfg : Config} (h : configOk cfg = true) : ready (State.resetWith cfg) = true := by
  have hc := configFacts h
  have hrange : inRange (State.resetWith cfg) = true :=
    inRange_iff.mpr ⟨hc.rows_pos, hc.cols_pos, hc.cap_pos, hc.cap_pos, Nat.zero_le _, Nat.two_pow_pos _,
      fun _ he => absurd he List.not_mem_nil⟩
  exact ready_iff.mpr ⟨rfl, h, hrange, rfl⟩

theorem storesWf_resetWith (cfg : Config) : StoresWf (State.resetWith cfg) :=
  ⟨Store.wf_nil _, Store.wf_nil _, Store.wf_nil _, Store.wf_nil _⟩

/-- Settles O45: the three properties of reset in a well-formed configuration, and the reference one is well formed. -/
theorem resetIsWellFormed : Obligations.ResetIsWellFormed :=
  ⟨fun cfg h => ⟨wf_resetWith (configFacts h), ready_resetWith h, storesWf_resetWith cfg⟩, by decide, rfl⟩

end Sys2Proof.Machine

namespace Sys2Proof.Machine

/-! ## Memory: the canonical form, the GATE space, the device ports (spec/20_memory.md R62, R66, R75, R76) -/

/-! ### Canonical stores are determined by their reads (log entry 19) -/

/-- The entries of a canonical store are the keys that read as something else than an unlisted key, with what they read
as. -/
theorem Store.mem_iff_read {α : Type} [DecidableEq α] {dflt : Nat → α} {m : Store α} (h : Store.wf dflt m)
    (e : Nat × α) : e ∈ m ↔ Store.read dflt m e.1 = e.2 ∧ e.2 ≠ dflt e.1 := by
  obtain ⟨hrising, hlisted⟩ := h
  constructor
  · exact fun he => ⟨Store.read_of_mem hrising he, hlisted e he⟩
  · rintro ⟨hread, hne⟩
    have hkey : ∃ x ∈ m, x.1 = e.1 := by
      by_contra hno
      push Not at hno
      exact hne (hread.symm.trans (Store.read_unlisted dflt m e.1 hno))
    obtain ⟨x, hx, hfst⟩ := hkey
    have hsnd : x.2 = e.2 := by rw [← Store.read_of_mem hrising hx, hfst, hread]
    rwa [← Prod.ext hfst hsnd]

/-- Canonical stores with the same reads have the same entries, and rising keys leave one order for them. -/
theorem Store.eq_of_read_eq {α : Type} [DecidableEq α] {dflt : Nat → α} {m m' : Store α} (h : Store.wf dflt m)
    (h' : Store.wf dflt m') (hread : ∀ a, Store.read dflt m a = Store.read dflt m' a) : m = m' := by
  have hmem (e : Nat × α) : e ∈ m ↔ e ∈ m' := by rw [Store.mem_iff_read h, Store.mem_iff_read h', hread]
  have hnodup {l : Store α} (hl : Store.wf dflt l) : l.Nodup :=
    hl.1.imp fun hlt => ne_of_apply_ne Prod.fst (Nat.ne_of_lt hlt)
  have hperm : m.Perm m' := (List.perm_ext_iff_of_nodup (hnodup h) (hnodup h')).mpr hmem
  exact hperm.eq_of_pairwise (fun _ _ _ _ hlt hgt => absurd hgt (Nat.lt_asymm hlt)) h.1 h'.1

/-- Settles O49: the byte memories are the stores of bytes. -/
theorem canonicalMemoriesWithEqualReadsAreEqual : Obligations.CanonicalMemoriesWithEqualReadsAreEqual :=
  fun _ _ _ => Store.eq_of_read_eq

/-! ### Every step keeps the canonical form -/

/-- `Dispatch` leaves the ring's bytes as they are or as one push leaves them. -/
theorem dispatch_kbuf (v d : Byte) (s : State) :
    (dispatch v d s).kbuf = s.kbuf ∨ (dispatch v d s).kbuf = (kbdPush d s).kbuf := by
  unfold dispatch
  split
  · rw [timerHandler_eq]
    exact .inl rfl
  · split
    · exact .inr rfl
    · exact .inl rfl

theorem takeEvent_kbuf_wf {v d : Byte} {s t : State} (h : takeEvent v d s = .next t)
    (hk : Memory.wf Config.kbufDraw s.kbuf) : Memory.wf Config.kbufDraw t.kbuf := by
  obtain ⟨-, ⟨-, rfl⟩ | ⟨-, -, rfl⟩ | ⟨-, rfl⟩⟩ := takeEvent_cases h
  · exact hk
  · exact hk
  · obtain he | he := dispatch_kbuf v d s <;> rw [he]
    · exact hk
    · exact kbdPush_wf hk

theorem Effect.kbuf_of_command {i : Instr} {s t : State} (he : Effect s i t) (hi : carrierOf i = .command) :
    t.kbuf = s.kbuf := by
  cases he with
  | served event => cases event.symm.trans hi
  | displayed _ _ screen _ => exact screen.kbuf
  | _ => rfl

/-- Among the instructions only the events write the ring's bytes. -/
theorem exec_kbuf_wf {i : Instr} {s t : State} (h : exec i s = .next t) (hk : Memory.wf Config.kbufDraw s.kbuf) :
    Memory.wf Config.kbufDraw t.kbuf := by
  cases i with
  | intTimer d => exact takeEvent_kbuf_wf (v := s.cfg.vecTimer) h hk
  | intKbd d => exact takeEvent_kbuf_wf (v := s.cfg.vecKbd) h hk
  | intOther v d => exact takeEvent_kbuf_wf (v := v) h hk
  | _ => rwa [(exec_effect h).kbuf_of_command rfl]

/-- The grid is written by the screen operations, the gate table by its installation, the client's memory by nothing. -/
theorem Effect.keeps_storesWf {i : Instr} {s t : State} (he : Effect s i t) (hs : StoresWf s)
    (hk : Memory.wf Config.kbufDraw t.kbuf) : StoresWf t := by
  obtain ⟨hgrid, -, hclient, hgates⟩ := hs
  cases he with
  | installed => exact ⟨hgrid, hk, hclient, installGates_wf hgates⟩
  | displayed _ _ screen _ =>
    exact ⟨screen.wf hgrid, hk, screen.client.symm ▸ hclient, screen.gates.symm ▸ hgates⟩
  | _ => exact ⟨hgrid, hk, hclient, hgates⟩

/-- Settles O48: an instruction writes a store by canonical writes only, and a bus access writes none. -/
theorem everyStepKeepsStoresCanonical : Obligations.EveryStepKeepsStoresCanonical := by
  intro s t hs h
  obtain ⟨i, rest, hexec⟩ | ⟨-, inbox, busData, draws, a0, a1, a2, a3, rfl⟩ := step_exec_or_bus h
  · have ⟨_, hkbuf, _⟩ := hs
    exact (exec_effect hexec).keeps_storesWf hs (exec_kbuf_wf hexec hkbuf)
  · exact hs

/-! ### The GATE space -/

/-- Inside the table the entry is the quotient by eight and the byte the remainder. -/
theorem gateByte_inside {s : State} {v k : Nat} (hv : v < s.cfg.nvec) (hk : k < 8) :
    gateByte s (s.cfg.idtBase.toNat + 8 * v + k) = some ((gateAt s v).extractLsb' (8 * k) 8) := by
  have hoff : s.cfg.idtBase.toNat + 8 * v + k - s.cfg.idtBase.toNat = 8 * v + k := by omega
  have hdiv : (8 * v + k) / 8 = v := by omega
  have hmod : (8 * v + k) % 8 = k := by omega
  rw [gateByte, hoff, hdiv, hmod, if_pos ⟨by omega, by omega⟩]

theorem gateByte_outside {s : State} {a : Nat}
    (h : a < s.cfg.idtBase.toNat ∨ s.cfg.idtBase.toNat + 8 * s.cfg.nvec ≤ a) : gateByte s a = none := by
  rw [gateByte, if_neg (by omega)]

/-- Settles O12: the two sides of the table's bounds. -/
theorem gateEntriesLieLittleEndian : Obligations.GateEntriesLieLittleEndian := fun _ =>
  ⟨fun _ hv _ hk => gateByte_inside hv hk, fun _ => gateByte_outside⟩

/-! ### The device ports -/

theorem lowByte_eq_ofNat (d : Half) : d.extractLsb' 0 8 = BitVec.ofNat 8 d.toNat := rfl

theorem highByte_eq_ofNat (d : Half) : d.extractLsb' 8 8 = BitVec.ofNat 8 (d.toNat / 256) :=
  congrArg (BitVec.ofNat 8) (Nat.shiftRight_eq_div_pow d.toNat 8)

/-- Settles O60: the port sequences as the model writes them, their two bytes of a 16-bit value as numbers. -/
theorem portSequencesOfTheOutputs : Obligations.PortSequencesOfTheOutputs := by
  intro cfg v d hw
  refine ⟨rfl, ?_, ?_⟩
  · rw [eventPortWrites, lowByte_eq_ofNat, highByte_eq_ofNat]
  · rw [cursorPortWrites, lowByte_eq_ofNat, highByte_eq_ofNat]

end Sys2Proof.Machine

namespace Sys2Proof

/-! ## The decoder and the encoder (spec/30_encoding.md R91, R93 to R96, R103) -/

/-! ### Command bytes -/

/-- The reserved bytes of R96 as ranges of numbers. -/
theorem isReservedOpcode_iff (b : Byte) :
    isReservedOpcode b = true ↔
      b.toNat = 0 ∨ 0x04 ≤ b.toNat ∧ b.toNat ≤ 0x0F ∨ 0x11 ≤ b.toNat ∧ b.toNat ≤ 0x1F ∨ 0x2C ≤ b.toNat := by
  simp [isReservedOpcode, BitVec.le_def, ← BitVec.toNat_inj, or_assoc]

theorem decodeCommand_of_reserved {b : Byte} (h : isReservedOpcode b = true) : decodeCommand b = .reserved b := by
  rw [isReservedOpcode_iff] at h
  unfold decodeCommand
  split
  case h_17 => rfl
  all_goals omega

/-- Every byte decodes to a well-formed instruction: what is none of the sixteen opcodes lies in a range of R96. -/
theorem wellFormed_decodeCommand (cfg : Config) (b : Byte) : wellFormed cfg (decodeCommand b) = true := by
  unfold decodeCommand
  split
  case h_17 =>
    simp only [imp_false] at *
    exact (isReservedOpcode_iff b).mpr (by omega)
  all_goals rfl

theorem carrierOf_decodeCommand (b : Byte) : carrierOf (decodeCommand b) = .command := by
  unfold decodeCommand
  split <;> rfl

theorem encode_decodeCommand (cfg : Config) (b : Byte) : encode cfg (decodeCommand b) = [b] := by
  unfold decodeCommand
  split
  case h_17 => rfl
  all_goals
    rename_i hb
    exact congrArg ([·]) (BitVec.eq_of_toNat_eq hb.symm)

theorem decodeCommand_eq_reserved_iff (b : Byte) : decodeCommand b = .reserved b ↔ isReservedOpcode b = true := by
  refine ⟨fun h => ?_, decodeCommand_of_reserved⟩
  have hwf := wellFormed_decodeCommand Machine.refConfig b
  rwa [h] at hwf

/-- Of the bytes below 0x2C, where all commands lie, 28 are reserved, and all 212 bytes from there on are. -/
theorem countP_isReservedOpcode :
    (List.range 256).countP (fun n => isReservedOpcode (BitVec.ofNat 8 n)) = 240 := by
  have hsplit : List.range 256 = List.range 0x2C ++ List.range' 0x2C 212 := by
    rw [List.range_eq_range', List.range_eq_range', List.range'_append_1]
  have hlow : (List.range 0x2C).countP (fun n => isReservedOpcode (BitVec.ofNat 8 n)) = 28 := by decide
  have hhigh : (List.range' 0x2C 212).countP (fun n => isReservedOpcode (BitVec.ofNat 8 n)) = 212 := by
    rw [List.countP_eq_length.mpr, List.length_range']
    intro n hn
    rw [List.mem_range'_1] at hn
    rw [isReservedOpcode_iff, BitVec.toNat_ofNat]
    omega
  rw [hsplit, List.countP_append, hlow, hhigh]

/-! ### Event words -/

@[simp] theorem eventVector_append (d v : Byte) : eventVector (d ++ v) = v :=
  BitVec.extractLsb'_append_eq_right

@[simp] theorem eventData_append (d v : Byte) : eventData (d ++ v) = d :=
  BitVec.extractLsb'_append_eq_left

/-- The routing of R95 on the two bytes of an event word. -/
theorem decodeEvent_append (cfg : Config) (d v : Byte) : decodeEvent cfg (d ++ v) =
    if v = cfg.vecTimer then .intTimer d else if v = cfg.vecKbd then .intKbd d else .intOther v d := by
  rw [decodeEvent, eventVector_append, eventData_append]

/-- What the routing answers is a well-formed event, and its encoding is the two bytes of the word. -/
theorem decodeEvent_append_spec (cfg : Config) (d v : Byte) :
    wellFormed cfg (decodeEvent cfg (d ++ v)) = true ∧ carrierOf (decodeEvent cfg (d ++ v)) = .event
      ∧ encode cfg (decodeEvent cfg (d ++ v)) = [v, d] := by
  rw [decodeEvent_append]
  split
  next ht => exact ⟨rfl, rfl, by rw [ht]; rfl⟩
  next ht =>
    split
    next hk => exact ⟨rfl, rfl, by rw [hk]; rfl⟩
    next hk => exact ⟨by simp [wellFormed, isOtherVector, ht, hk], rfl, rfl⟩

/-! ### Byte lists -/

/-- What decodes is the byte of a command or the two bytes of an event word, before the bytes left. -/
theorem decodeBytes_cases {cfg : Config} {c : Carrier} {bs rest : List Byte} {i : Instr}
    (h : decodeBytes cfg c bs = .ok (i, rest)) :
    (∃ b, c = .command ∧ bs = b :: rest ∧ i = decodeCommand b)
      ∨ ∃ v d, c = .event ∧ bs = v :: d :: rest ∧ i = decodeEvent cfg (d ++ v) := by
  unfold decodeBytes at h
  split at h <;> cases h
  · exact .inl ⟨_, rfl, rfl, rfl⟩
  · exact .inr ⟨_, _, rfl, rfl, rfl⟩

/-- The two bytes of an event decode as its word. -/
theorem decodeBytes_encodeEvent (cfg : Config) (v d : Byte) (rest : List Byte) :
    decodeBytes cfg .event (encodeEvent v d ++ rest) = .ok (decodeEvent cfg (d ++ v), rest) :=
  rfl

/-- Settles O1: a command's byte by evaluation, a reserved byte by its well-formedness, an event by the routing of its
vector, where the two vectors of the configuration differ. -/
theorem decodeInvertsEncode : Obligations.DecodeInvertsEncode := by
  intro cfg i rest hcfg hwf
  have hne : cfg.vecKbd ≠ cfg.vecTimer := (Machine.configFacts hcfg).vec_ne.symm
  cases i with
  | reserved b =>
    have hb := decodeCommand_of_reserved (b := b) hwf
    simp [carrierOf, encode, decodeBytes, hb]
  | intTimer d => simp [carrierOf, encode, decodeBytes_encodeEvent, decodeEvent_append]
  | intKbd d => simp [carrierOf, encode, decodeBytes_encodeEvent, decodeEvent_append, hne]
  | intOther v d =>
    have hv : v ≠ cfg.vecTimer ∧ v ≠ cfg.vecKbd := by simpa [wellFormed, isOtherVector] using hwf
    simp [carrierOf, encode, decodeBytes_encodeEvent, decodeEvent_append, hv]
  | _ => rfl

/-- Settles O2: a command byte and an event word each decode to an instruction whose encoding they are. -/
theorem encodeInvertsDecode : Obligations.EncodeInvertsDecode := by
  intro cfg c bs rest i h
  obtain ⟨b, rfl, rfl, rfl⟩ | ⟨v, d, rfl, rfl, rfl⟩ := decodeBytes_cases h
  · exact ⟨wellFormed_decodeCommand cfg b, carrierOf_decodeCommand b, by rw [encode_decodeCommand]; rfl⟩
  · obtain ⟨hwf, hcarrier, hencode⟩ := decodeEvent_append_spec cfg d v
    exact ⟨hwf, hcarrier, by rw [hencode]; rfl⟩

/-- Settles O3: the eight words, evaluated. -/
theorem specWordsDecodeToTheirInstructions : Obligations.SpecWordsDecodeToTheirInstructions := by
  unfold Obligations.SpecWordsDecodeToTheirInstructions
  decide

/-- Settles O4: the ranges of R96 are what the opcode map leaves, and their bytes are counted. -/
theorem reservedOpcodesAreThe240OfTheSpec : Obligations.ReservedOpcodesAreThe240OfTheSpec :=
  ⟨decodeCommand_eq_reserved_iff, countP_isReservedOpcode⟩

end Sys2Proof

namespace Sys2Proof.Machine

/-! ## The command port and the step (spec/30_encoding.md R93, R96, R100) -/

/-! ### The step by the input at the front of the inbox -/

/-- The address of a register leads back to it: the offsets of R100 stay apart modulo 2^32. -/
theorem portReg_portAddr (cfg : Config) (r : PortReg) : portReg cfg (portAddr cfg r) = some r := by
  cases r with
  | cmd => rw [portReg, portAddr, BitVec.sub_self]; rfl
  | operand i | result i =>
    rw [portReg, portAddr, BitVec.add_comm, BitVec.add_sub_cancel]
    fin_cases i <;> rfl

section
variable {s : State} {rest : List Input}

theorem step_event {w : Half} (h : s.inbox = .event w :: rest) :
    step s = exec (decodeEvent s.cfg w) { s with inbox := rest } := by
  simp only [step, fetch, h]

theorem step_write_cmd {v : Word} (h : s.inbox = .write (portAddr s.cfg .cmd) v :: rest) :
    step s = exec (decodeCommand (byteOf v)) { s with inbox := rest } := by
  simp only [step, fetch, h, portReg_portAddr]

theorem step_write_operand (hr : ready s = true) {i : Fin 4} {v : Word}
    (h : s.inbox = .write (portAddr s.cfg (.operand i)) v :: rest) :
    step s = .next (writeOperand i v { s with inbox := rest }) := by
  simp only [step, fetch, h, portReg_portAddr, whenReady_ready hr]

theorem step_write_result (hr : ready s = true) {i : Fin 2} {v : Word}
    (h : s.inbox = .write (portAddr s.cfg (.result i)) v :: rest) : step s = .next { s with inbox := rest } := by
  simp only [step, fetch, h, portReg_portAddr, whenReady_ready hr]

theorem step_read (hr : ready s = true) {r : PortReg} (h : s.inbox = .read (portAddr s.cfg r) :: rest) :
    step s = .next (busRead r { s with inbox := rest }) := by
  simp only [step, fetch, h, portReg_portAddr, whenReady_ready hr]

end

/-- Settles O6: each address is that of its register, and each access is the step of its register. -/
theorem commandPortBusView : Obligations.CommandPortBusView := fun _ _ _ hr =>
  ⟨step_write_cmd, step_write_operand hr (i := 0), step_write_operand hr (i := 1), step_write_operand hr (i := 2),
    step_write_operand hr (i := 3), step_write_result hr (i := 0), step_write_result hr (i := 1),
    fun h => ⟨_, step_read hr (r := .cmd) h⟩, step_read hr (r := .operand 0), step_read hr (r := .operand 1),
    step_read hr (r := .operand 2), step_read hr (r := .operand 3), step_read hr (r := .result 0),
    step_read hr (r := .result 1)⟩

/-! ### The host's words (log entry 20) -/

theorem byteOf_ofNat (n : Nat) : byteOf (BitVec.ofNat 32 (n % 256)) = BitVec.ofNat 8 n := by
  apply BitVec.eq_of_toNat_eq
  rw [byteOf, BitVec.extractLsb'_toNat, BitVec.toNat_ofNat, BitVec.toNat_ofNat, Nat.shiftRight_zero]
  omega

theorem step_withFetchWord_command (s : State) (n : Nat) :
    step (s.withFetchWord 8 n) = exec (decodeCommand (BitVec.ofNat 8 n)) s := by
  rw [← byteOf_ofNat]
  exact step_write_cmd (s := s.withFetchWord 8 n) rfl

theorem step_withFetchWord_event (s : State) (n : Nat) :
    step (s.withFetchWord 16 n) = exec (decodeEvent s.cfg (BitVec.ofNat 16 n)) s :=
  step_event (s := s.withFetchWord 16 n) rfl

/-- Settles O5: the two inputs that carry an instruction, waiting in the inbox and presented by the host. -/
theorem stepRunsTheDecodedInstruction : Obligations.StepRunsTheDecodedInstruction :=
  ⟨fun _ _ _ => step_event, fun _ _ _ => step_write_cmd, fun s n _ => step_withFetchWord_command s n,
    step_withFetchWord_event⟩

/-! ### The reserved opcodes -/

theorem exec_reserved {s : State} (h : ready s = true) (b : Byte) :
    exec (.reserved b) s = .next (setR0 resErrInval s) :=
  whenReady_ready h _

/-- Settles O37: the write of the byte to `CMD` runs RESERVED, which the guard lets through. -/
theorem reservedOpcodeReturnsErrInval : Obligations.ReservedOpcodeReturnsErrInval := by
  intro s b hr hb
  refine ⟨exec_reserved hr b, ?_⟩
  rw [step_withFetchWord_command, BitVec.ofNat_toNat, BitVec.setWidth_eq, decodeCommand_of_reserved hb]
  exact exec_reserved hr b

end Sys2Proof.Machine

namespace Sys2Proof.Machine

/-! ## The dispatcher (spec/40_dispatch.md R120 to R128) -/

/-! ### INSTALL_INTERRUPTS -/

/-- What INSTALL_INTERRUPTS leaves in a ready state. -/
theorem exec_installInterrupts {s : State} (h : ready s = true) :
    exec .installInterrupts s = .next { s with
      gates := (installGates s).gates, idtr := ⟨s.cfg.idtBase, idtLimit s.cfg⟩, idtLoaded := true
      timerArmed := true, ie := true, r0 := 0
      out := s.out ++ [.idtLoad s.cfg.idtBase (idtLimit s.cfg), .timerProgram s.cfg.timerDivisor] } :=
  (whenReady_ready h _).trans (congrArg Host.Outcome.next (installInterrupts_effect s))

/-- The installed table inside its bounds. The two vectors differ, so the order of the two gate writes does not show. -/
theorem gateAt_installGates_inside {s : State} (hc : ConfigFacts s.cfg) {v : Nat} (hv : v < s.cfg.nvec) :
    gateAt (installGates s) v =
      if v = s.cfg.vecTimer.toNat then makeGate s.cfg s.cfg.entryTimer
      else if v = s.cfg.vecKbd.toNat then makeGate s.cfg s.cfg.entryKbd else 0 := by
  rw [gateAt_installGates]
  by_cases ht : v = s.cfg.vecTimer.toNat
  · have hk : v ≠ s.cfg.vecKbd.toNat := ht ▸ hc.vec_ne_nat
    rw [if_neg hk]
    simp only [if_pos ht]
  · simp only [if_neg ht, if_pos hv]

/-- Settles O9: the effect of the command field by field, and the table by the reads of its writes. -/
theorem installInterruptsProgramsTheTable : Obligations.InstallInterruptsProgramsTheTable := fun _ hr =>
  ⟨_, exec_installInterrupts hr, rfl, fun _ hv => gateAt_installGates_inside (ready_config hr) hv⟩

/-- INSTALL_INTERRUPTS leaves a state that takes steps: it does not set the model fault. -/
theorem ready_of_exec_installInterrupts {s t : State} (h : exec .installInterrupts s = .next t) :
    ready t = true := by
  have hr := exec_ready h
  have hfault : t.fault = none := by
    obtain ⟨hf, -⟩ := ready_iff.mp hr
    rw [exec_installInterrupts hr] at h
    cases h
    exact hf
  exact ((exec_effect h).keeps_ready hr).resolve_right (not_not_intro hfault)

/-- Settles O10: the first run leaves a ready state with the same parameters, so the second writes the same table. -/
theorem reinstallationKeepsTheTable : Obligations.ReinstallationKeepsTheTable := by
  intro s t h
  have hr := exec_ready h
  have ht := ready_of_exec_installInterrupts h
  have hc := ready_config hr
  rw [exec_installInterrupts hr] at h
  cases h
  exact ⟨_, exec_installInterrupts ht, rfl, fun _ hv =>
    (gateAt_installGates_inside (ready_config ht) hv).trans (gateAt_installGates_inside hc hv).symm⟩

/-! ### `MakeGate` -/

theorem gateOffLo_eq (g : DWord) : gateOffLo g = (gateEntry g).extractLsb' 0 16 :=
  BitVec.extractLsb'_append_eq_right.symm

theorem gateOffHi_eq (g : DWord) : gateOffHi g = (gateEntry g).extractLsb' 16 16 :=
  BitVec.extractLsb'_append_eq_left.symm

theorem gateSel_makeGate (cfg : Config) (entry : Word) : gateSel (makeGate cfg entry) = cfg.codeSel := by
  ext i hi
  rw [gateSel, BitVec.getElem_extractLsb', getLsbD_makeGate _ _ _ (by omega), if_neg (by omega), if_pos (by omega),
    Nat.add_sub_cancel_left, BitVec.getLsbD_eq_getElem]

theorem gateDpl_makeGate (cfg : Config) (entry : Word) : gateDpl (makeGate cfg entry) = cfg.gateDpl := by
  ext i hi
  rw [gateDpl, BitVec.getElem_extractLsb', getLsbD_makeGate _ _ _ (by omega)]
  iterate 5 rw [if_neg (by omega)]
  rw [if_pos (by omega), Nat.add_sub_cancel_left, BitVec.getLsbD_eq_getElem]

/-- The two values of the `type` field as R120 writes them. -/
theorem gateTypeBits_eq (g : GateType) : gateTypeBits g = if g = .interrupt then 0xE else 0xF := by
  cases g <;> rfl

/-- Settles O11: one lemma per field; the halves of the entry point are those of `gateEntry`. -/
theorem makeGatePacksItsFields : Obligations.MakeGatePacksItsFields := by
  intro cfg entry
  rw [gateOffLo_eq, gateOffHi_eq, gateEntry_makeGate, gateType_makeGate, gateTypeBits_eq]
  exact ⟨rfl, gateSel_makeGate cfg entry, gateReserved_makeGate cfg entry, rfl, gateS_makeGate cfg entry,
    gateDpl_makeGate cfg entry, gatePresent_makeGate cfg entry, rfl⟩

/-! ### Event steps -/

/-- An enabled event through a missing table or a gate that is not present, as a record update. -/
theorem takeEvent_not_present {v : Byte} {s : State} (d : Byte) (h : ready s = true) (hie : s.ie = true)
    (hg : s.idtLoaded = false ∨ gatePresent (gateAt s v.toNat) = false) :
    takeEvent v d s = .next { s with fault := some (.gateNotPresent v) } :=
  takeEvent_no_gate d h hie fun ⟨hl, hp⟩ => by simp [hl, hp] at hg

/-- A delivered INT_TIMER: the handler, then the acknowledge. -/
theorem exec_intTimer_delivered {s : State} (d : Byte) (h : ready s = true) (hd : Deliverable s s.cfg.vecTimer) :
    exec (.intTimer d) s = .next (emit (.ack s.cfg.vecTimer) (timerHandler s)) :=
  (takeEvent_deliverable d h hd).trans (congrArg Host.Outcome.next (dispatch_timer d s))

/-- A delivered INT_KBD: the push, then the acknowledge. -/
theorem exec_intKbd_delivered {s : State} (d : Byte) (h : ready s = true) (hd : Deliverable s s.cfg.vecKbd) :
    exec (.intKbd d) s = .next (emit (.ack s.cfg.vecKbd) (kbdPush d s)) :=
  (takeEvent_deliverable d h hd).trans (congrArg Host.Outcome.next (dispatch_kbd (ready_config h).vec_ne d))

theorem isOtherVector_iff {cfg : Config} {v : Byte} :
    isOtherVector cfg v = true ↔ v ≠ cfg.vecTimer ∧ v ≠ cfg.vecKbd := by
  simp [isOtherVector]

/-- A delivered INT_OTHER: the diagnostic, no acknowledge. -/
theorem exec_intOther_delivered {v : Byte} {s : State} (d : Byte) (h : ready s = true)
    (hv : isOtherVector s.cfg v = true) (hd : Deliverable s v) :
    exec (.intOther v d) s = .next (emit (.diag v) s) :=
  have ⟨ht, hk⟩ := isOtherVector_iff.mp hv
  (takeEvent_deliverable d h hd).trans (congrArg Host.Outcome.next (dispatch_other ht hk d))

/-- `TimerHandler` with the events it sends as a list. -/
theorem timerHandler_out (s : State) :
    (timerHandler s).out =
      s.out ++ if s.cb = 0 then [] else [.callback s.cb ((s.ticks + 1) % 2 ^ s.cfg.tickWidth)] := by
  rw [timerHandler_eq]
  split
  · exact (List.append_nil _).symm
  · rfl

/-- Settles O38: the timer's handler and the acknowledge, or the failed entry. -/
theorem timerEventCountsAndAcknowledges : Obligations.TimerEventCountsAndAcknowledges := by
  refine fun s d hr => ⟨fun hd => ?_, takeEvent_not_present d hr⟩
  rw [exec_intTimer_delivered d hr hd, ← timerHandler_out, timerHandler_eq]
  rfl

/-- Settles O39: a push on a ring with room, a push on a full one, or the failed entry. -/
theorem keyboardEventPushesOrDrops : Obligations.KeyboardEventPushesOrDrops := by
  refine fun s d hr => ⟨fun hd hroom => ?_, fun hd hfull => ?_, takeEvent_not_present d hr⟩
  · rw [exec_intKbd_delivered d hr hd, kbdPush_room hroom]
    exact ⟨_, rfl, rfl, fun j => kbufRead_kbufWrite s.khead j d s⟩
  · rw [exec_intKbd_delivered d hr hd, kbdPush_full hfull.not_lt]
    rfl

/-- Settles O40: the diagnostic of the dispatcher, or the failed entry. -/
theorem unknownVectorIsDiagnosed : Obligations.UnknownVectorIsDiagnosed := fun _ _ d hr hv =>
  ⟨exec_intOther_delivered d hr hv, takeEvent_not_present d hr⟩

/-! ### The other vectors of an installed table -/

/-- A vector beyond the table has no entry (log entry 14). -/
theorem gateAt_beyond {s : State} (h : ready s = true) {v : Nat} (hv : s.cfg.nvec ≤ v) : gateAt s v = 0 := by
  obtain ⟨-, -, -, -, -, -, -, -, hkeys, -⟩ := ready_facts h
  exact Store.read_unlisted gateDraw s.gates v fun e he => by
    have hlt := hkeys e he
    omega

/-- Under the gate invariant of R28 only the two handlers' gates are present, beyond the table included. -/
theorem gatePresent_other {s : State} (h : ready s = true) (hg : GateInv s) {v : Byte}
    (hv : isOtherVector s.cfg v = true) : gatePresent (gateAt s v.toNat) = false := by
  obtain ⟨ht, hk⟩ := isOtherVector_iff.mp hv
  obtain ⟨hpresent, -⟩ := hg
  by_cases hin : v.toNat < s.cfg.nvec
  · rw [← Bool.not_eq_true, hpresent _ hin, BitVec.toNat_inj, BitVec.toNat_inj]
    exact not_or.mpr ⟨ht, hk⟩
  · rw [gateAt_beyond h (Nat.le_of_not_lt hin)]
    rfl

/-- Settles O41: the gate of such a vector is not present, so the entry fails. -/
theorem installedTableFaultsOnOtherVectors : Obligations.InstalledTableFaultsOnOtherVectors :=
  fun _ _ d hr ⟨_, hg⟩ hie hv => takeEvent_not_present d hr hie (.inr (gatePresent_other hr hg hv))

/-! ### The acknowledges (R123, R128) -/

theorem ackCount_append (xs ys : List OutEvent) : ackCount (xs ++ ys) = ackCount xs + ackCount ys :=
  List.countP_append

theorem ackCount_timerHandler (s : State) : ackCount (timerHandler s).out = ackCount s.out := by
  rw [timerHandler_out, ackCount_append]
  split <;> rfl

theorem kbdPush_out (b : Byte) (s : State) : (kbdPush b s).out = s.out := by
  rw [kbdPush_rest]

/-- An acknowledge sent after a handler that sends none is the one acknowledge and the last output. -/
theorem ack_emitted {s u : State} (h : ackCount u.out = ackCount s.out) (v : Byte) :
    ackCount (emit (.ack v) u).out = ackCount s.out + 1 ∧ (emit (.ack v) u).out.getLast? = some (.ack v) := by
  rw [emit_out, ackCount_append, h]
  exact ⟨rfl, List.getLast?_concat⟩

/-- A command sends no acknowledge: the two install commands send other events, the rest sends nothing. -/
theorem Effect.ackCount_of_command {i : Instr} {s t : State} (he : Effect s i t) (hi : carrierOf i = .command) :
    ackCount t.out = ackCount s.out := by
  cases he with
  | served event => cases event.symm.trans hi
  | installed | timerInstalled => exact ackCount_append _ _
  | displayed _ _ screen _ => exact congrArg ackCount screen.out
  | _ => rfl

/-- An event that is not delivered sends nothing. -/
theorem takeEvent_undelivered_out {v d : Byte} {s t : State} (h : takeEvent v d s = .next t)
    (hd : ¬ Deliverable s v) : t.out = s.out := by
  obtain ⟨-, ⟨-, rfl⟩ | ⟨-, -, rfl⟩ | ⟨hdel, -⟩⟩ := takeEvent_cases h
  · rfl
  · rfl
  · exact absurd hdel hd

/-- INT_OTHER sends no acknowledge, delivered or not. -/
theorem ackCount_intOther {v d : Byte} {s t : State} (hv : isOtherVector s.cfg v = true)
    (h : exec (.intOther v d) s = .next t) : ackCount t.out = ackCount s.out := by
  by_cases hd : Deliverable s v
  · rw [exec_intOther_delivered d (exec_ready h) hv hd] at h
    cases h
    exact ackCount_append _ _
  · exact congrArg ackCount (takeEvent_undelivered_out (v := v) h hd)

/-- Settles O43: the two delivered events end with their acknowledge, an undelivered one sends nothing, and neither
INT_OTHER nor a command sends an acknowledge. -/
theorem oneAcknowledgePerServicedEvent : Obligations.OneAcknowledgePerServicedEvent := by
  intro i s t hwf h
  have hr := exec_ready h
  refine ⟨?_, ?_, fun hT hK => ?_⟩
  · rintro d rfl hd
    rw [exec_intTimer_delivered d hr hd] at h
    cases h
    exact ack_emitted (ackCount_timerHandler s) _
  · rintro d rfl hd
    rw [exec_intKbd_delivered d hr hd] at h
    cases h
    exact ack_emitted (congrArg ackCount (kbdPush_out d s)) _
  · cases i with
    | intTimer d =>
      exact congrArg ackCount (takeEvent_undelivered_out (v := s.cfg.vecTimer) h fun hd => hT ⟨d, rfl, hd⟩)
    | intKbd d =>
      exact congrArg ackCount (takeEvent_undelivered_out (v := s.cfg.vecKbd) h fun hd => hK ⟨d, rfl, hd⟩)
    | intOther v d => exact ackCount_intOther hwf h
    | _ => exact (exec_effect h).ackCount_of_command rfl

end Sys2Proof.Machine

namespace Sys2Proof.Machine

/-! ## The timer (spec/41_timer.md R140 to R146) -/

/-! ### INSTALL_TIMER and GET_TICKS -/

/-- What INSTALL_TIMER leaves in a ready state. -/
theorem exec_installTimer {s : State} (h : ready s = true) :
    exec .installTimer s = .next { s with
      out := s.out ++ [.timerProgram s.cfg.timerDivisor], timerArmed := true, cb := s.a0, ticks := 0, r0 := 0 } :=
  whenReady_ready h _

/-- Settles O13: the guard lets the command through, and its effect is these five writes. -/
theorem installTimerStoresTheCallback : Obligations.InstallTimerStoresTheCallback := fun _ => exec_installTimer

theorem exec_getTicks {s : State} (h : ready s = true) : exec .getTicks s = .next (setR0 (wordOf s.ticks) s) :=
  whenReady_ready h _

/-- The word of a number is the word of its low 32 bits. -/
theorem wordOf_eq_ofNat_mod (n : Nat) : wordOf n = BitVec.ofNat 32 (n % 2 ^ 32) :=
  BitVec.eq_of_toNat_eq (by simp [wordOf])

/-- Settles O14: the result is the word of the counter, which is that of its low 32 bits. -/
theorem getTicksReturnsTheCounter : Obligations.GetTicksReturnsTheCounter := by
  intro s hr
  rw [exec_getTicks hr, wordOf_eq_ofNat_mod]
  rfl

/-! ### A run of timer events (R142, R146) -/

/-- An instruction that does not set the model fault leaves a state that takes steps. -/
theorem ready_of_exec {i : Instr} {s t : State} (h : exec i s = .next t) (hf : t.fault = none) : ready t = true :=
  ((exec_effect h).keeps_ready (exec_ready h)).resolve_right (not_not_intro hf)

/-- What `n` timer events in a row send when the first of them counts to `start`: each reports its count to the callback
`c` and is acknowledged for the vector `v`. -/
def tickReports (c : Word) (v : Byte) (start n : Nat) : List OutEvent :=
  (List.range' start n).flatMap fun k => [.callback c k, .ack v]

theorem tickReports_succ (c : Word) (v : Byte) (start n : Nat) :
    tickReports c v start (n + 1) = [.callback c start, .ack v] ++ tickReports c v (start + 1) n := rfl

/-- The reports from 1 on, in the spelling of R146. -/
theorem tickReports_one (c : Word) (v : Byte) (n : Nat) :
    tickReports c v 1 n = (List.range n).flatMap fun i => [.callback c (i + 1), .ack v] := by
  rw [tickReports, List.range'_eq_map_range, List.flatMap_map]
  simp only [Nat.add_comm 1]

/-- One delivered timer event with a callback and below the width of the counter: no wrap, one report. -/
theorem exec_intTimer_reports {s : State} (d : Byte) (hr : ready s = true) (hd : Deliverable s s.cfg.vecTimer)
    (hcb : s.cb ≠ 0) (hroom : s.ticks + 1 < 2 ^ s.cfg.tickWidth) :
    exec (.intTimer d) s = .next { s with
      ticks := s.ticks + 1, out := s.out ++ [.callback s.cb (s.ticks + 1), .ack s.cfg.vecTimer] } := by
  rw [exec_intTimer_delivered d hr hd, timerHandler_eq, if_neg hcb, nextTick, Nat.mod_eq_of_lt hroom, emit,
    List.append_assoc]
  rfl

theorem timerEvents_cons {d : Byte} {s t : State} (h : exec (.intTimer d) s = .next t) (ds : List Byte) :
    timerEvents (d :: ds) s = timerEvents ds t := by
  rw [timerEvents, h]

/-- A run of timer events that does not wrap the counter counts on and reports every count. An event leaves the state
ready, deliverable and with the same callback, so the induction goes on from the counter it leaves. -/
theorem timerEvents_reports {s : State} (ds : List Byte) (hr : ready s = true) (hd : Deliverable s s.cfg.vecTimer)
    (hcb : s.cb ≠ 0) (hroom : s.ticks + ds.length < 2 ^ s.cfg.tickWidth) :
    timerEvents ds s = .next { s with
      ticks := s.ticks + ds.length
      out := s.out ++ tickReports s.cb s.cfg.vecTimer (s.ticks + 1) ds.length } := by
  induction ds generalizing s with
  | nil => simp [timerEvents, tickReports]
  | cons d ds ih =>
    obtain ⟨hf, -⟩ := ready_iff.mp hr
    rw [List.length_cons] at hroom
    have hone := exec_intTimer_reports d hr hd hcb (by omega)
    rw [timerEvents_cons hone, ih (ready_of_exec hone hf) hd hcb (by dsimp only; omega), List.length_cons,
      tickReports_succ, ← List.append_assoc, Nat.add_right_comm, Nat.add_assoc s.ticks]

/-- Settles O15: INSTALL_TIMER leaves a ready state with the callback stored and the counter at 0, from which the run
reports 1, 2 and so on. -/
theorem everyTimerEventReportsItsTick : Obligations.EveryTimerEventReportsItsTick := by
  intro s t ds h ha hd hroom
  have hr := exec_ready h
  obtain ⟨hf, -⟩ := ready_iff.mp hr
  cases h.symm.trans (exec_installTimer hr)
  refine ⟨_, timerEvents_reports ds (ready_of_exec h hf) hd ha (by rwa [Nat.zero_add]), ?_⟩
  rw [Nat.zero_add, Nat.zero_add, tickReports_one]

/-! ### Who writes the counter and the callback (R146, spec/10_state.md R30) -/

theorem Effect.cb {i : Instr} {s t : State} (he : Effect s i t) (hi : i ≠ .installTimer) : t.cb = s.cb := by
  cases he with
  | timerInstalled => exact absurd rfl hi
  | displayed _ _ screen _ => exact screen.cb
  | _ => rfl

/-- Of the commands only INSTALL_TIMER writes the counter. -/
theorem Effect.ticks_of_command {i : Instr} {s t : State} (he : Effect s i t) (hi : carrierOf i = .command)
    (ht : i ≠ .installTimer) : t.ticks = s.ticks := by
  cases he with
  | timerInstalled => exact absurd rfl ht
  | served event => cases event.symm.trans hi
  | displayed _ _ screen _ => exact screen.ticks
  | _ => rfl

/-- The dispatcher counts a tick for the timer's vector only. -/
theorem dispatch_ticks {v : Byte} {s : State} (hv : v ≠ s.cfg.vecTimer) (d : Byte) :
    (dispatch v d s).ticks = s.ticks := by
  by_cases hk : v = s.cfg.vecKbd
  · subst hk
    rw [dispatch_kbd hv.symm, emit_ticks, kbdPush_rest]
  · rw [dispatch_other hv hk, emit_ticks]

/-- An event with another vector leaves the counter, delivered or not. -/
theorem takeEvent_ticks {v d : Byte} {s t : State} (hv : v ≠ s.cfg.vecTimer) (h : takeEvent v d s = .next t) :
    t.ticks = s.ticks := by
  obtain ⟨-, ⟨-, rfl⟩ | ⟨-, -, rfl⟩ | ⟨-, rfl⟩⟩ := takeEvent_cases h
  · rfl
  · rfl
  · exact dispatch_ticks hv d

/-- Settles O52: the two events but INT_TIMER have another vector than the timer's, and the commands are framed by their
effect. -/
theorem tickCounterChangesOnlyByTheTimer : Obligations.TickCounterChangesOnlyByTheTimer := by
  intro i s t hwf h hi
  have he := exec_effect h
  refine ⟨he.cb hi, fun hT => ?_⟩
  cases i with
  | intTimer d => exact absurd rfl (hT d)
  | intKbd d => exact takeEvent_ticks (ready_config (exec_ready h)).vec_ne.symm h
  | intOther v d => exact takeEvent_ticks (isOtherVector_iff.mp hwf).1 h
  | _ => exact he.ticks_of_command rfl hi

end Sys2Proof.Machine

namespace Sys2Proof.Machine

/-! ## The keyboard (spec/42_keyboard.md R150 to R160) -/

/-! ### READ_CHARACTER (R153, R154, R160) -/

/-- A poll of `AUG_PREFIX` completes no character, and the byte is remembered. -/
theorem pollKey_prefix {s : State} (hbyte : 0 < s.kcount) (hprefix : kbufRead s s.ktail = s.cfg.augPrefix) :
    pollKey s = (none, { s with ktail := nextIndex s.cfg s.ktail, kcount := s.kcount - 1, decAug := true }) :=
  (pollKey_byte hbyte).trans (if_pos hprefix)

/-- A poll of any other byte ends the sequence: a break completes no character, a press the one its key has. -/
theorem pollKey_code {s : State} (hbyte : 0 < s.kcount) (hcode : kbufRead s s.ktail ≠ s.cfg.augPrefix) :
    pollKey s = (if isBreak (kbufRead s s.ktail) then none else keymapAt s.cfg s.decAug (keyCode (kbufRead s s.ktail)),
      { s with ktail := nextIndex s.cfg s.ktail, kcount := s.kcount - 1, decAug := false }) :=
  (pollKey_byte hbyte).trans (if_neg hcode)

theorem exec_readCharacter {s : State} (h : ready s = true) :
    exec .readCharacter s = .next (setR0 (characterResult (pollKey s).1) (pollKey s).2) :=
  whenReady_ready h _

theorem exec_readCharacter_empty {s : State} (h : ready s = true) (hempty : s.kcount = 0) :
    exec .readCharacter s = .next { s with r0 := resNone } := by
  rw [exec_readCharacter h, pollKey_empty hempty]
  rfl

/-- READ_CHARACTER when the oldest byte is `AUG_PREFIX`: it is consumed, and there is no character. -/
theorem exec_readCharacter_prefix {s : State} (h : ready s = true) (hbyte : 0 < s.kcount)
    (hprefix : kbufRead s s.ktail = s.cfg.augPrefix) :
    exec .readCharacter s = .next { s with
      ktail := nextIndex s.cfg s.ktail, kcount := s.kcount - 1, decAug := true, r0 := resNone } := by
  rw [exec_readCharacter h, pollKey_prefix hbyte hprefix]
  rfl

/-- Settles O17: an empty ring, `AUG_PREFIX`, a break, and a press with or without data. -/
theorem readCharacterPollsOneByte : Obligations.ReadCharacterPollsOneByte := by
  refine fun s hr => ⟨exec_readCharacter_empty hr, fun hbyte => ?_⟩
  by_cases hprefix : kbufRead s s.ktail = s.cfg.augPrefix
  · rw [exec_readCharacter_prefix hr hbyte hprefix, if_pos hprefix, decide_eq_true hprefix]
    rfl
  · rw [exec_readCharacter hr, pollKey_code hbyte hprefix, if_neg hprefix, decide_eq_false hprefix, isBreak]
    by_cases hbreak : (kbufRead s s.ktail).getLsbD 7 = true
    · rw [if_pos hbreak, if_pos hbreak]
      rfl
    · rw [if_neg hbreak, if_neg hbreak, keymapAt, keyCode]
      cases s.cfg.keymap.lookup _ <;> rfl

/-- Settles O18: the poll of `AUG_PREFIX` leaves a ready state with an empty ring and NONE in `R0`, which the next poll
writes again. -/
theorem partialSequenceReadsAsNone : Obligations.PartialSequenceReadsAsNone := by
  refine fun s hr => ⟨exec_readCharacter_empty hr, fun hone hprefix => ?_⟩
  obtain ⟨hf, -⟩ := ready_iff.mp hr
  have hpoll := exec_readCharacter_prefix hr (by omega) hprefix
  have hempty : s.kcount - 1 = 0 := by omega
  exact ⟨_, _, hpoll, rfl, rfl, hempty, exec_readCharacter_empty (ready_of_exec hpoll hf) hempty, rfl, rfl⟩

/-! ### The live contents of the ring (R158, spec/10_state.md R32) -/

theorem liveBytes_length (s : State) : (liveBytes s).length = s.kcount := by
  rw [liveBytes, List.length_map, List.length_range]

theorem liveBytes_eq_nil_iff {s : State} : liveBytes s = [] ↔ s.kcount = 0 := by
  rw [← List.length_eq_zero_iff, liveBytes_length]

/-- The slots from the tail up to the head are different ones: fewer than `KBUF_CAP` steps do not
lead round the ring. -/
theorem ringSlot_ne {cap tail i n : Nat} (hi : i < n) (hn : n < cap) : (tail + i) % cap ≠ (tail + n) % cap := by
  intro h
  have hmod : i % cap = n % cap := Nat.ModEq.add_left_cancel' tail h
  rw [Nat.mod_eq_of_lt (hi.trans hn), Nat.mod_eq_of_lt hn] at hmod
  omega

/-- The push writes the slot after the last live byte, and no live one. -/
theorem liveBytes_kbdPush {b : Byte} {s : State} (hinv : RingInv s) (hroom : s.kcount < s.cfg.kbufCap) :
    liveBytes (kbdPush b s) = liveBytes s ++ [b] := by
  obtain ⟨-, -, -, hhead⟩ := hinv
  have hread (j : Nat) : kbufRead (kbdPush b s) j = if j = s.khead then b else kbufRead s j := by
    rw [kbdPush_room hroom]
    exact kbufRead_kbufWrite s.khead j b s
  have hlive : liveBytes (kbdPush b s) =
      (List.range (s.kcount + 1)).map fun i => kbufRead (kbdPush b s) ((s.ktail + i) % s.cfg.kbufCap) := by
    rw [kbdPush_room hroom]
    rfl
  rw [hlive, List.range_succ, List.map_append, List.map_singleton, hread, if_pos hhead.symm, liveBytes]
  congr 1
  refine List.map_congr_left fun i hi => ?_
  rw [hread, hhead, if_neg (ringSlot_ne (List.mem_range.mp hi) hroom)]

/-- A push keeps the ring invariants of any state, ready or not. -/
theorem ringInv_kbdPush {s : State} (b : Byte) (h : RingInv s) : RingInv (kbdPush b s) := by
  obtain ⟨hcount, hhead, htail, heq⟩ := h
  by_cases hroom : s.kcount < s.cfg.kbufCap
  · rw [kbdPush_room hroom]
    refine ⟨hroom, Nat.mod_lt _ (by omega), htail, ?_⟩
    simp only [nextIndex, kbufWrite_ktail, kbufWrite_cfg]
    rw [heq, Nat.mod_add_mod, Nat.add_assoc]
  · rw [kbdPush_full hroom]
    exact ⟨hcount, hhead, htail, heq⟩

theorem kbdPop_byte {s : State} (h : 0 < s.kcount) : kbdPop s =
    (some (kbufRead s s.ktail), { s with ktail := nextIndex s.cfg s.ktail, kcount := s.kcount - 1 }) :=
  if_pos h

theorem kbdPop_empty {s : State} (h : s.kcount = 0) : kbdPop s = (none, s) :=
  if_neg (by omega)

/-- The oldest live byte lies at the tail, and the pop leaves the others. -/
theorem liveBytes_eq_cons {s : State} (htail : s.ktail < s.cfg.kbufCap) (h : 0 < s.kcount) :
    liveBytes s = kbufRead s s.ktail :: liveBytes (kbdPop s).2 := by
  obtain ⟨n, hn⟩ := Nat.exists_eq_add_one.mpr h
  rw [kbdPop_byte h, liveBytes, liveBytes, hn, List.range_succ_eq_map, List.map_cons, List.map_map, Nat.add_zero,
    Nat.mod_eq_of_lt htail]
  congr 1
  refine List.map_congr_left fun i _ => ?_
  simp only [Function.comp_apply, nextIndex, Nat.mod_add_mod]
  rw [Nat.succ_eq_add_one, Nat.add_right_comm, Nat.add_assoc]
  rfl

/-- Settles O19: a push with room, a push on a full ring, a pop, and a pop of an empty ring. -/
theorem ringIsFirstInFirstOut : Obligations.RingIsFirstInFirstOut := by
  intro s b hinv
  refine ⟨liveBytes_kbdPush hinv, fun hfull => kbdPush_full hfull.not_lt, fun x rest hlive => ?_,
    fun hnil => kbdPop_empty (liveBytes_eq_nil_iff.mp hnil)⟩
  obtain ⟨-, -, htail, -⟩ := hinv
  have hbyte : 0 < s.kcount := by rw [← liveBytes_length, hlive]; exact Nat.succ_pos _
  obtain ⟨hx, hrest⟩ := List.cons.inj ((liveBytes_eq_cons htail hbyte).symm.trans hlive)
  rw [← hx, ← hrest, kbdPop_byte hbyte]
  exact ⟨rfl, rfl⟩

/-! ### Filling and draining the ring (spec/95_test_vectors.md E6) -/

theorem kbdPush_cfg (b : Byte) (s : State) : (kbdPush b s).cfg = s.cfg := by
  rw [kbdPush_rest]

/-- The state after pushing a list of bytes in order. -/
def pushAll (bs : List Byte) (s : State) : State := bs.foldl (fun t x => kbdPush x t) s

theorem pushAll_cfg (bs : List Byte) (s : State) : (pushAll bs s).cfg = s.cfg := by
  induction bs generalizing s with
  | nil => rfl
  | cons b bs ih => exact (ih (kbdPush b s)).trans (kbdPush_cfg b s)

theorem ringInv_pushAll {s : State} (bs : List Byte) (h : RingInv s) : RingInv (pushAll bs s) := by
  induction bs generalizing s with
  | nil => exact h
  | cons b bs ih => exact ih (ringInv_kbdPush b h)

/-- As many pushes as there is room for append all their bytes. -/
theorem liveBytes_pushAll {s : State} (hinv : RingInv s) (bs : List Byte)
    (hroom : s.kcount + bs.length ≤ s.cfg.kbufCap) :
    liveBytes (pushAll bs s) = liveBytes s ++ bs := by
  induction bs generalizing s with
  | nil => exact (List.append_nil _).symm
  | cons b bs ih =>
    rw [List.length_cons] at hroom
    have hfirst := liveBytes_kbdPush (b := b) hinv (by omega)
    have hcount : (kbdPush b s).kcount = s.kcount + 1 := by
      rw [← liveBytes_length, hfirst, List.length_append, liveBytes_length, List.length_singleton]
    have hrest := ih (ringInv_kbdPush b hinv) (by rw [hcount, kbdPush_cfg]; omega)
    rw [hfirst, List.append_assoc] at hrest
    exact hrest

/-- The pops of a ring return its live bytes in order, and one more finds it empty. -/
theorem popTimes_drains {s : State} (htail : s.ktail < s.cfg.kbufCap) :
    popTimes (s.kcount + 1) s = (liveBytes s).map some ++ [none] := by
  generalize hn : s.kcount = n
  induction n generalizing s with
  | zero =>
    rw [liveBytes_eq_nil_iff.mpr hn, popTimes, kbdPop_empty hn]
    rfl
  | succ n ih =>
    have hbyte : 0 < s.kcount := by omega
    have hnext : (kbdPop s).2.ktail < (kbdPop s).2.cfg.kbufCap := by
      rw [kbdPop_byte hbyte]
      exact nextIndex_lt (by omega) _
    have hcount : (kbdPop s).2.kcount = n := by
      rw [kbdPop_byte hbyte]
      exact Nat.sub_eq_of_eq_add hn
    rw [popTimes, ih hnext hcount, liveBytes_eq_cons htail hbyte, kbdPop_byte hbyte]
    rfl

/-- Settles O20: the first `KBUF_CAP` pushes fill the ring, the last one changes nothing, and the pops drain it. -/
theorem fullRingDropsTheNewestAndDrainsInOrder : Obligations.FullRingDropsTheNewestAndDrainsInOrder := by
  intro s bs b hinv hempty hlen
  have hlive : liveBytes (pushAll bs s) = bs := by
    rw [liveBytes_pushAll hinv bs (by omega), liveBytes_eq_nil_iff.mpr hempty, List.nil_append]
  have hcount : (pushAll bs s).kcount = s.cfg.kbufCap := by rw [← liveBytes_length, hlive, hlen]
  have hdrop : (bs ++ [b]).foldl (fun t x => kbdPush x t) s = pushAll bs s := by
    rw [List.foldl_concat]
    exact kbdPush_full (by rw [← pushAll, hcount, pushAll_cfg]; omega)
  obtain ⟨-, -, htail, -⟩ := ringInv_pushAll bs hinv
  have hpops := popTimes_drains htail
  rw [hcount, hlive] at hpops
  rw [hdrop]
  exact ⟨hcount, hlive, hpops⟩

/-! ### Who writes the ring and the decoder flag (R159, spec/10_state.md R31, R33) -/

/-- No command moves the ring's head. -/
theorem Effect.khead_of_command {i : Instr} {s t : State} (he : Effect s i t) (hi : carrierOf i = .command) :
    t.khead = s.khead := by
  cases he with
  | served event => cases event.symm.trans hi
  | displayed _ _ screen _ => exact screen.khead
  | _ => rfl

theorem Effect.ktail_decAug {i : Instr} {s t : State} (he : Effect s i t) (hi : i ≠ .readCharacter) :
    t.ktail = s.ktail ∧ t.decAug = s.decAug := by
  cases he with
  | polled => exact absurd rfl hi
  | displayed _ _ screen _ => exact ⟨screen.ktail, screen.decAug⟩
  | _ => exact ⟨rfl, rfl⟩

/-- Of the commands only READ_CHARACTER writes the ring's count. -/
theorem Effect.kcount_of_command {i : Instr} {s t : State} (he : Effect s i t) (hi : carrierOf i = .command)
    (hread : i ≠ .readCharacter) : t.kcount = s.kcount := by
  cases he with
  | polled => exact absurd rfl hread
  | served event => cases event.symm.trans hi
  | displayed _ _ screen _ => exact screen.kcount
  | _ => rfl

/-- The dispatcher pushes a byte for the keyboard's vector only. -/
theorem dispatch_ring {v : Byte} {s : State} (hv : v ≠ s.cfg.vecKbd) (d : Byte) :
    (dispatch v d s).kbuf = s.kbuf ∧ (dispatch v d s).khead = s.khead ∧ (dispatch v d s).kcount = s.kcount := by
  by_cases ht : v = s.cfg.vecTimer
  · subst ht
    rw [dispatch_timer, timerHandler_eq]
    exact ⟨rfl, rfl, rfl⟩
  · rw [dispatch_other ht hv]
    exact ⟨rfl, rfl, rfl⟩

/-- An event with another vector leaves the producer's side of the ring, delivered or not. -/
theorem takeEvent_ring {v d : Byte} {s t : State} (hv : v ≠ s.cfg.vecKbd) (h : takeEvent v d s = .next t) :
    t.kbuf = s.kbuf ∧ t.khead = s.khead ∧ t.kcount = s.kcount := by
  obtain ⟨-, ⟨-, rfl⟩ | ⟨-, -, rfl⟩ | ⟨-, rfl⟩⟩ := takeEvent_cases h
  · exact ⟨rfl, rfl, rfl⟩
  · exact ⟨rfl, rfl, rfl⟩
  · exact dispatch_ring hv d

/-- An instruction but INT_KBD leaves the ring's bytes and head, and but READ_CHARACTER its count: the other two events
have another vector than the keyboard's, and the commands are framed by their effect. -/
theorem exec_ring {i : Instr} {s t : State} (hwf : wellFormed s.cfg i = true) (h : exec i s = .next t)
    (hK : ∀ d, i ≠ .intKbd d) :
    t.kbuf = s.kbuf ∧ t.khead = s.khead ∧ (i ≠ .readCharacter → t.kcount = s.kcount) := by
  have he := exec_effect h
  have hevent {v d : Byte} (hv : v ≠ s.cfg.vecKbd) (ht : takeEvent v d s = .next t) :=
    (takeEvent_ring hv ht).imp_right (And.imp_right fun hcount (_ : i ≠ .readCharacter) => hcount)
  cases i with
  | intKbd d => exact absurd rfl (hK d)
  | intTimer d => exact hevent (ready_config (exec_ready h)).vec_ne h
  | intOther v d => exact hevent (isOtherVector_iff.mp hwf).2 h
  | _ => exact ⟨he.kbuf_of_command rfl, he.khead_of_command rfl, he.kcount_of_command rfl⟩

/-- Settles O53: the producer's side is framed by the vector of an event, the consumer's by the kind of effect. -/
theorem ringIsOwnedByProducerAndConsumer : Obligations.RingIsOwnedByProducerAndConsumer := by
  refine fun i s t hwf h => ⟨fun hK => ?_, (exec_effect h).ktail_decAug, fun hK => ?_⟩
  · obtain ⟨hkbuf, hhead, -⟩ := exec_ring hwf h hK
    exact ⟨hkbuf, hhead⟩
  · obtain ⟨-, -, hcount⟩ := exec_ring hwf h hK
    exact hcount

end Sys2Proof.Machine

namespace Sys2Proof.Machine

/-! ## The console (spec/43_console.md R170 to R188) -/

/-! ### The commands in a ready state -/

section
variable {s : State}

theorem exec_getColor (h : ready s = true) : exec .getColor s = .next (setR0 (zextByte s.color) s) :=
  whenReady_ready h _

theorem exec_getCursor (h : ready s = true) :
    exec .getCursor s = .next (setR1 (wordOf s.col) (setR0 (wordOf s.row) s)) :=
  whenReady_ready h _

theorem exec_hideCursor (h : ready s = true) :
    exec .hideCursor s = .next (setR0 resOk (syncHw (setHidden true s))) :=
  whenReady_ready h _

theorem exec_showCursor (h : ready s = true) :
    exec .showCursor s = .next (setR0 resOk (syncHw (setHidden false s))) :=
  whenReady_ready h _

theorem exec_scroll (h : ready s = true) : exec .scroll s = .next (setR0 resOk (scrollGrid s)) :=
  whenReady_ready h _

theorem exec_clear (h : ready s = true) :
    exec .clear s = .next (setR0 resOk (syncHw (setCursor 0 0 (clearGrid s)))) :=
  whenReady_ready h _

theorem exec_setColor_some (h : ready s = true) {k : Nat} (hk : rangeChecked s.a0 256 = some k) :
    exec .setColor s = .next (setR0 resOk { s with color := byteOf s.a0 }) := by
  rw [exec, execSetColor, whenReady_ready h, hk]

theorem exec_setColor_none (h : ready s = true) (hk : rangeChecked s.a0 256 = none) :
    exec .setColor s = .next (setR0 resErrInval s) := by
  rw [exec, execSetColor, whenReady_ready h, hk]

theorem exec_setCursor_some (h : ready s = true) {r c : Nat} (hin : inGrid s.cfg s.a0 s.a1 = some (r, c)) :
    exec .setCursor s = .next (setR0 resOk (syncHw (setCursor r c s))) := by
  rw [exec, execSetCursor, whenReady_ready h, hin]

theorem exec_setCursor_none (h : ready s = true) (hin : inGrid s.cfg s.a0 s.a1 = none) :
    exec .setCursor s = .next (setR0 resErrInval s) := by
  rw [exec, execSetCursor, whenReady_ready h, hin]

theorem exec_readCharacterAt_some (h : ready s = true) {r c : Nat} (hin : inGrid s.cfg s.a0 s.a1 = some (r, c)) :
    exec .readCharacterAt s = .next (setR0 (zextByte (cellCh s r c)) s) := by
  rw [exec, execReadCharacterAt, whenReady_ready h, hin]

theorem exec_readCharacterAt_none (h : ready s = true) (hin : inGrid s.cfg s.a0 s.a1 = none) :
    exec .readCharacterAt s = .next (raiseFault (.uncheckedReadOutOfRange s.a0 s.a1) s) := by
  rw [exec, execReadCharacterAt, whenReady_ready h, hin]

/-- DRAW_CHARACTER accepts its colour and its character (spec/43_console.md R185). -/
abbrev DrawArgsOk (s : State) : Prop := (rangeChecked s.a3 256).isSome = true ∧ drawChOk s = true

theorem exec_drawCharacter_valid (h : ready s = true) {r c : Nat} (hin : inGrid s.cfg s.a0 s.a1 = some (r, c))
    (hargs : DrawArgsOk s) :
    exec .drawCharacter s = .next (setR0 resOk (writeCell r c (byteOf s.a2) (byteOf s.a3) s)) := by
  rw [exec, execDrawCharacter, whenReady_ready h, hin]
  exact congrArg Host.Outcome.next (if_pos ((Bool.and_eq_true _ _).mpr hargs))

theorem exec_drawCharacter_invalid (h : ready s = true)
    (hargs : inGrid s.cfg s.a0 s.a1 = none ∨ ¬ DrawArgsOk s) :
    exec .drawCharacter s = .next (setR0 resErrInval s) := by
  rw [exec, execDrawCharacter, whenReady_ready h]
  cases hin : inGrid s.cfg s.a0 s.a1 with
  | none => rfl
  | some rc =>
    have hbad : ¬ DrawArgsOk s := hargs.resolve_left (by simp [hin])
    exact congrArg Host.Outcome.next (if_neg fun hok => hbad ((Bool.and_eq_true _ _).mp hok))

end

/-! ### Operand words -/

/-- A word that stands for a natural number is the word of it. -/
theorem eq_wordOf {v : Word} {k : Nat} (h : v.toInt = k) : v = wordOf k := by
  rw [wordOf, ← BitVec.ofInt_natCast, ← h, BitVec.ofInt_toInt]

theorem byteOf_zextByte (b : Byte) : byteOf (zextByte b) = b := by
  apply BitVec.eq_of_toNat_eq
  simp only [byteOf, zextByte, BitVec.extractLsb'_toNat, BitVec.toNat_setWidth, Nat.shiftRight_zero]
  omega

/-- A word that stands for a byte value is that byte extended by zeros. -/
theorem zextByte_byteOf {v : Word} {k : Nat} (h : v.toInt = k) (hk : k < 256) : zextByte (byteOf v) = v := by
  apply BitVec.eq_of_toNat_eq
  simp only [eq_wordOf h, byteOf, zextByte, wordOf, BitVec.extractLsb'_toNat, BitVec.toNat_setWidth,
    BitVec.toNat_ofNat, Nat.shiftRight_zero]
  omega

theorem toInt_wordOf {n : Nat} (h : n < 2 ^ 31) : (wordOf n).toInt = n := by
  have hn : (wordOf n).toNat = n := Nat.mod_eq_of_lt (by omega)
  rw [BitVec.toInt_eq_toNat_of_lt (by omega), hn]

/-! ### Cursor and hardware cursor -/

/-- `ROW`, `COL` set and `HWCUR` by `SyncHw` after writes inside the grid, field by field. -/
theorem GridStep.synced {s u : State} {r c : Nat} (h : GridStep (setCursor r c s) u) (v : Word) :
    setR0 v (syncHw u) = { s with row := r, col := c, hwcur := hwAt s r c, r0 := v, grid := u.grid } := by
  rw [h.rest]
  rfl

/-- Writes inside the grid do not depend on when the cursor is set. -/
theorem GridStep.with_cursor {s u : State} (h : GridStep s u) (r c : Nat) :
    GridStep (setCursor r c s) (setCursor r c u) where
  rest := by
    rw [h.rest]
    rfl
  outside := h.outside
  wf := h.wf

/-- `ROW`, `COL` set and `HWCUR` by `SyncHw`, field by field. -/
theorem setCursor_synced (r c : Nat) (v : Word) (s : State) :
    setR0 v (syncHw (setCursor r c s)) = { s with row := r, col := c, hwcur := hwAt s r c, r0 := v } :=
  (GridStep.refl (setCursor r c s)).synced v

/-- A screen step that ends in the hardware cursor equation, field by field. -/
theorem ScreenStep.synced {s t : State} (h : ScreenStep s t) (hhw : HwCursorInv t) (v : Word) :
    setR0 v t = { s with row := t.row, col := t.col, hwcur := hwAt s t.row t.col, r0 := v, grid := t.grid } := by
  have hat : t.hwcur = hwAt s t.row t.col := by
    rw [hhw, h.hidden, linearPos, hidePos, h.cfg, hwAt]
  rw [← hat, h.rest]
  rfl

theorem gridRead_writeCell_other {s : State} {r c a : Nat} (ch attr : Byte) (ha : a ≠ cellAddr s.cfg r c)
    (ha' : a ≠ cellAddr s.cfg r c + 1) : gridRead (writeCell r c ch attr s) a = gridRead s a := by
  rw [gridRead_writeCell, if_neg ha', if_neg ha]

theorem cell_writeCell_same {s : State} {r c : Nat} (ch attr : Byte) (hc : c < s.cfg.cols) :
    cell (writeCell r c ch attr s) r c = (ch, attr) := by
  rw [cell_writeCell ch attr s hc hc, if_pos ⟨rfl, rfl⟩]

/-! What a GRID byte and a cell read as does not depend on the result register, the hardware cursor and the cursor. -/

section
variable (s : State)

theorem gridRead_setCursor (r c a : Nat) : gridRead (setCursor r c s) a = gridRead s a := rfl
theorem gridRead_synced (v : Word) (a : Nat) : gridRead (setR0 v (syncHw s)) a = gridRead s a := rfl
theorem cell_setCursor (r' c' r c : Nat) : cell (setCursor r' c' s) r c = cell s r c := rfl
theorem cell_syncHw (r c : Nat) : cell (syncHw s) r c = cell s r c := rfl
theorem cell_synced (v : Word) (r c : Nat) : cell (setR0 v (syncHw s)) r c = cell s r c := rfl

end

theorem GridStep.synced_outside {s u : State} {r c : Nat} (h : GridStep (setCursor r c s) u) (v : Word) (a : Nat)
    (ha : ¬ InGridSpace s.cfg a) : gridRead (setR0 v (syncHw u)) a = gridRead s a :=
  h.outside a ha

/-! ### PUT_CHARACTER (R172, R174, R175) -/

theorem newLine_advances {s : State} (h : s.row + 1 < s.cfg.rows) : newLine s = setCursor (s.row + 1) 0 s :=
  if_neg (by omega)

theorem newLine_scrolls {s : State} (h : s.row + 1 = s.cfg.rows) :
    newLine s = scrollGrid (setCursor s.row 0 s) :=
  if_pos (by omega)

/-- PUT_CHARACTER of a byte whose `PutCh` is known. -/
theorem exec_putCharacter_of {s u : State} {b : Byte} (hr : ready s = true) (hb : s.a0.extractLsb' 0 8 = b)
    (hu : putCh b s = u) : exec .putCharacter s = .next (setR0 (zextByte b) (syncHw u)) := by
  rw [exec_putCharacter hr, byteOf, hb, hu]

/-- The scroll when the cursor is set before it. -/
theorem cell_scrollGrid_setCursor {s : State} {r c : Nat} (r' c' : Nat) (hr : r < s.cfg.rows) (hc : c < s.cfg.cols) :
    cell (scrollGrid (setCursor r' c' s)) r c =
      if r + 1 < s.cfg.rows then cell s (r + 1) c else (s.cfg.blank, s.color) :=
  cell_scrollGrid (s := setCursor r' c' s) hr hc

/-- Settles O21: off the last row the cursor moves, on the last row the grid scrolls. -/
theorem newlineAdvancesOrScrollsOnce : Obligations.NewlineAdvancesOrScrollsOnce := by
  refine fun s hr hb => ⟨fun hrow => ?_, fun hlast => ?_⟩
  · rw [exec_putCharacter_of hr hb (newLine_advances hrow), setCursor_synced]
    rfl
  · have hgrid := gridStep_scrollGrid (s := setCursor s.row 0 s) (ready_config hr).rows_pos
    exact ⟨_, exec_putCharacter_of hr hb (newLine_scrolls hlast), hgrid.synced _,
      fun _ hrow _ hcol => (cell_synced _ _ _ _).trans (cell_scrollGrid_setCursor _ _ hrow hcol),
      hgrid.synced_outside _⟩

/-- Settles O22: the cursor moves and the grid is not written. -/
theorem carriageReturnGoesToColumnZero : Obligations.CarriageReturnGoesToColumnZero := by
  intro s hr hb
  rw [exec_putCharacter_of hr hb (putCh_return s), setCursor_synced]
  rfl

/-- The cell before a cell of the grid, or the first cell, lies in the grid. -/
theorem precedingCell_inGrid {s : State} (h : CursorInv s) :
    (linearPos s - 1) / s.cfg.cols < s.cfg.rows ∧ (linearPos s - 1) % s.cfg.cols < s.cfg.cols := by
  obtain ⟨hrow, hcol⟩ := h
  have hlt := linear_lt hrow hcol
  refine ⟨Nat.div_lt_of_lt_mul ?_, Nat.mod_lt _ (by omega)⟩
  rw [linearPos, Nat.mul_comm s.cfg.cols]
  omega

/-- PUT_CHARACTER of a byte that fills cell (r, c) in the current colour and sends the cursor to (r', c'). -/
theorem exec_putCharacter_fills {s : State} {b ch : Byte} {r c r' c' : Nat} (h : ready s = true)
    (hb : s.a0.extractLsb' 0 8 = b) (hput : putCh b s = setCursor r' c' (writeCell r c ch s.color s))
    (hr : r < s.cfg.rows) (hc : c < s.cfg.cols) :
    ∃ t : State, exec .putCharacter s = .next t
      ∧ t = { s with row := r', col := c', hwcur := hwAt s r' c', r0 := zextByte b, grid := t.grid }
      ∧ cell t r c = (ch, s.color)
      ∧ ∀ a, a ≠ cellAddr s.cfg r c → a ≠ cellAddr s.cfg r c + 1 → gridRead t a = gridRead s a := by
  have hgrid := (gridStep_writeCell ch s.color hr hc).with_cursor r' c'
  refine ⟨_, exec_putCharacter_of h hb hput, hgrid.synced _, ?_, fun a ha ha' => ?_⟩
  · rw [cell_synced, cell_setCursor, cell_writeCell_same _ _ hc]
  · rw [gridRead_synced, gridRead_setCursor, gridRead_writeCell_other _ _ ha ha']

/-- Settles O23: the cursor goes to the cell before, which is then blanked. -/
theorem backspaceBlanksThePrecedingCell : Obligations.BackspaceBlanksThePrecedingCell := by
  intro s hr hb
  obtain ⟨hrow, hcol⟩ := precedingCell_inGrid (ready_cursor hr)
  exact exec_putCharacter_fills hr hb (putCh_backspace s) hrow hcol

/-- Settles O24: the cell is written at the old cursor, whatever cell the cursor goes on to. -/
theorem printingByteFillsTheCursorCell : Obligations.PrintingByteFillsTheCursorCell := by
  intro s hr hb hroom
  obtain ⟨hrow, hcol⟩ := ready_cursor hr
  exact exec_putCharacter_fills hr rfl ((putCh_print hb).trans (printByte_room hroom)) hrow hcol

/-- What the grid holds after a byte at the last cell and the scroll that follows it: the byte stands in the row above
the last, when there is one. -/
theorem cell_scrollGrid_writeCell {s : State} {r c : Nat} (ch : Byte) (hlast : s.row + 1 = s.cfg.rows)
    (hcol : s.col < s.cfg.cols) (hr : r < s.cfg.rows) (hc : c < s.cfg.cols) :
    cell (scrollGrid (setCursor s.row 0 (writeCell s.row s.col ch s.color s))) r c =
      if r + 1 = s.row ∧ c = s.col then (ch, s.color)
      else if r + 1 < s.cfg.rows then cell s (r + 1) c else (s.cfg.blank, s.color) := by
  rw [cell_scrollGrid_setCursor (s := writeCell s.row s.col ch s.color s) _ _ hr hc, writeCell_cfg, writeCell_color,
    cell_writeCell ch s.color s hcol hc]
  by_cases hmoved : r + 1 = s.row ∧ c = s.col
  · rw [if_pos (by omega), if_pos hmoved, if_pos hmoved]
  · rw [if_neg hmoved, if_neg hmoved]

/-- Settles O25: the write and the scroll are two steps inside the grid. -/
theorem printingAtTheLastCellScrolls : Obligations.PrintingAtTheLastCellScrolls := by
  intro s hr hb hcol hlast
  obtain ⟨hrow, hc⟩ := ready_cursor hr
  have hwrite := (gridStep_writeCell (s.a0.extractLsb' 0 8) s.color hrow hc).with_cursor s.row 0
  have hgrid := hwrite.trans (gridStep_scrollGrid (ready_config hr).rows_pos)
  exact ⟨_, exec_putCharacter_of hr rfl ((putCh_print hb).trans (printByte_last (by omega) (by omega))),
    hgrid.synced _, fun _ hr' _ hc' => (cell_synced _ _ _ _).trans (cell_scrollGrid_writeCell _ hlast hc hr' hc'),
    hgrid.synced_outside _⟩

/-! ### What the screen operations do not see

The screen operations read the parameters, the client's memory and the console, and write the cursor, the hardware
cursor and the grid. A change of the rest of the state can come before or after them. -/

/-- `g` changes nothing the screen operations read, and can change places with their three writes. -/
structure OffScreen (g : State → State) : Prop where
  cfg (s : State) : (g s).cfg = s.cfg
  client (s : State) : (g s).client = s.client
  row (s : State) : (g s).row = s.row
  col (s : State) : (g s).col = s.col
  color (s : State) : (g s).color = s.color
  grid (s : State) : (g s).grid = s.grid
  setCursor (r c : Nat) (s : State) : Machine.setCursor r c (g s) = g (Machine.setCursor r c s)
  syncHw (s : State) : Machine.syncHw (g s) = g (Machine.syncHw s)
  gridWrite (a : Nat) (v : Byte) (s : State) : Machine.gridWrite a v (g s) = g (Machine.gridWrite a v s)

namespace OffScreen

variable {g : State → State} (hg : OffScreen g)
include hg

theorem gridRead (s : State) (a : Nat) : Machine.gridRead (g s) a = Machine.gridRead s a := by
  rw [Machine.gridRead, hg.grid, Machine.gridRead]

theorem writeCell (r c : Nat) (ch attr : Byte) (s : State) :
    Machine.writeCell r c ch attr (g s) = g (Machine.writeCell r c ch attr s) := by
  simp only [Machine.writeCell, hg.cfg, hg.gridWrite]

theorem copyCellUp (r c : Nat) (s : State) : Machine.copyCellUp r c (g s) = g (Machine.copyCellUp r c s) := by
  simp only [Machine.copyCellUp, cellCh, cellAt, hg.cfg, hg.gridRead, hg.writeCell]

theorem blankCell (r c : Nat) (s : State) : Machine.blankCell r c (g s) = g (Machine.blankCell r c s) := by
  simp only [Machine.blankCell, hg.cfg, hg.color, hg.writeCell]

theorem copyRowUp (r : Nat) (s : State) : Machine.copyRowUp r (g s) = g (Machine.copyRowUp r s) := by
  rw [Machine.copyRowUp, hg.cfg]
  exact forUp_comm (fun c => hg.copyCellUp r c) s

theorem blankRow (r : Nat) (s : State) : Machine.blankRow r (g s) = g (Machine.blankRow r s) := by
  rw [Machine.blankRow, hg.cfg]
  exact forUp_comm (fun c => hg.blankCell r c) s

theorem scrollGrid (s : State) : Machine.scrollGrid (g s) = g (Machine.scrollGrid s) := by
  rw [Machine.scrollGrid, hg.cfg, forUp_comm hg.copyRowUp, hg.blankRow, Machine.scrollGrid]

theorem clearGrid (s : State) : Machine.clearGrid (g s) = g (Machine.clearGrid s) := by
  rw [Machine.clearGrid, hg.cfg, forUp_comm hg.blankRow, Machine.clearGrid]

theorem newLine (s : State) : Machine.newLine (g s) = g (Machine.newLine s) := by
  simp only [Machine.newLine, hg.row, hg.cfg, hg.setCursor, hg.scrollGrid, apply_ite g]

theorem backspace (s : State) : Machine.backspace (g s) = g (Machine.backspace s) := by
  simp only [Machine.backspace, linearPos, hg.row, hg.col, hg.cfg, hg.setCursor, hg.blankCell]

theorem printByte (ch : Byte) (s : State) : Machine.printByte ch (g s) = g (Machine.printByte ch s) := by
  simp only [Machine.printByte, hg.row, hg.col, hg.color, hg.cfg, hg.writeCell, hg.setCursor, hg.newLine, apply_ite g]

theorem putCh (ch : Byte) (s : State) : Machine.putCh ch (g s) = g (Machine.putCh ch s) := by
  simp only [Machine.putCh, hg.row, hg.newLine, hg.setCursor, hg.backspace, hg.printByte, apply_ite g]

theorem putStringByte (base : Word) (i : Nat) (s : State) :
    Machine.putStringByte base i (g s) = g (Machine.putStringByte base i s) := by
  simp only [Machine.putStringByte, clientRead, hg.client, hg.putCh, hg.syncHw]

theorem putString (base : Word) (n : Nat) (s : State) :
    forUp n (Machine.putStringByte base) (g s) = g (forUp n (Machine.putStringByte base) s) :=
  forUp_comm (hg.putStringByte base) s

end OffScreen

/-! ### PUT_STRING (R176) -/

/-- PUT_STRING of `n` bytes; of no bytes it is the loop that makes no pass. -/
theorem exec_putString_length {s : State} {n : Nat} (hr : ready s = true) (ha : s.a0 ≠ 0) (hn : s.a1.toInt = n) :
    exec .putString s = .next (setR0 resOk (forUp n (putStringByte s.a0) s)) := by
  cases n with
  | zero => exact exec_putString_nothing hr (.inr (by omega))
  | succ n =>
    have hlen : lengthOf s.a1 = n + 1 := by rw [lengthOf, hn, Int.toNat_natCast]
    rw [exec_putString hr (not_or.mpr ⟨ha, by omega⟩), hlen]

/-- What the last byte of a string does. -/
theorem putString_succ {s : State} (hcur : CursorInv s) (base : Word) (n : Nat) :
    forUp (n + 1) (putStringByte base) s =
      syncHw (putCh (clientRead s (addressOf base n)) (forUp n (putStringByte base) s)) := by
  rw [forUp_succ, putStringByte, clientRead, (screenStep_putString base n hcur).client, clientRead]

/-- The state with other operands and another result. -/
def withRegs (a0 a1 r0 : Word) (s : State) : State := { s with a0 := a0, a1 := a1, r0 := r0 }

theorem offScreen_withRegs (a0 a1 r0 : Word) : OffScreen (withRegs a0 a1 r0) :=
  ⟨fun _ => rfl, fun _ => rfl, fun _ => rfl, fun _ => rfl, fun _ => rfl, fun _ => rfl, fun _ _ _ => rfl, fun _ => rfl,
    fun _ _ _ => rfl⟩

/-- A screen operation leaves the registers, so writing their old values afterwards changes nothing. -/
theorem ScreenStep.withRegs_eq {s t : State} (h : ScreenStep s t) (v : Word) :
    withRegs s.a0 s.a1 v t = setR0 v t := by
  rw [h.rest]
  rfl

/-- PUT_CHARACTER of a byte when the operand and result registers differ. -/
theorem exec_putCharacter_withRegs {s : State} (hr : ready s = true) (b : Byte) (a1 r0 : Word) :
    exec .putCharacter (withRegs (zextByte b) a1 r0 s) =
      .next (withRegs (zextByte b) a1 (zextByte b) (syncHw (putCh b s))) := by
  have hoff := offScreen_withRegs (zextByte b) a1 r0
  rw [exec_putCharacter_of (s := withRegs (zextByte b) a1 r0 s) hr (byteOf_zextByte b) (hoff.putCh b s), hoff.syncHw]
  rfl

/-- PUT_STRING of `n` bytes when the length register differs. -/
theorem exec_putString_withRegs {s : State} (hr : ready s = true) (ha : s.a0 ≠ 0) {n : Nat} (hn : n < 2 ^ 31) :
    exec .putString (withRegs s.a0 (wordOf n) s.r0 s) =
      .next (withRegs s.a0 (wordOf n) 0 (forUp n (putStringByte s.a0) s)) := by
  have hoff := offScreen_withRegs s.a0 (wordOf n) s.r0
  refine (exec_putString_length (s := withRegs s.a0 (wordOf n) s.r0 s) hr ha (toInt_wordOf hn)).trans ?_
  exact congrArg (fun t => Host.Outcome.next (setR0 resOk t)) (hoff.putString s.a0 n s)

/-- Settles O26: the loop's last pass is PUT_CHARACTER of the last byte, and the operand registers that the two commands
are given are not seen by the screen operations. -/
theorem putStringIsPutCharacterOfEachByte : Obligations.PutStringIsPutCharacterOfEachByte := by
  refine fun s hr => ⟨exec_putString_nothing hr, fun n ha hn => ?_⟩
  have hlt := BitVec.toInt_lt (x := s.a1)
  have hcur := ready_cursor hr
  have hy := (screenStep_putString s.a0 n hcur).ready hr
  have hz := screenStep_putString s.a0 (n + 1) hcur
  have hfirst := exec_putString_withRegs hr ha (n := n) (by omega)
  have hlast := exec_putCharacter_withRegs hy (clientRead s (addressOf s.a0 n)) (wordOf n) 0
  have hall := exec_putString_length hr ha (n := n + 1) (mod_cast hn)
  rw [putString_succ hcur] at hz hall
  generalize forUp n (putStringByte s.a0) s = y at hfirst hlast hall hz
  generalize syncHw (putCh (clientRead s (addressOf s.a0 n)) y) = z at hlast hall hz
  exact ⟨_, _, hfirst, hlast, hall.trans (congrArg Host.Outcome.next (hz.withRegs_eq 0).symm)⟩

/-- The screen after `i` ordinary bytes of the string at `base`, all in the row of the cursor of `s`. -/
structure RowFilled (s : State) (base : Word) (i : Nat) (t : State) : Prop where
  screen : ScreenStep s t
  row : t.row = s.row
  col : t.col = s.col + i
  hwCursor : 0 < i → HwCursorInv t
  cells : ∀ r, ∀ c < s.cfg.cols, cell t r c =
    if r = s.row ∧ s.col ≤ c ∧ c < s.col + i then (clientRead s (addressOf base (c - s.col)), s.color)
    else cell s r c

theorem RowFilled.refl {s : State} (h : CursorInv s) (base : Word) : RowFilled s base 0 s :=
  ⟨.refl h, rfl, rfl, fun h0 => absurd h0 (Nat.lt_irrefl 0), fun _ _ _ => (if_neg (by omega)).symm⟩

/-- An ordinary byte with room after it in the row goes into the next cell. -/
theorem RowFilled.succ {s t : State} {base : Word} {i : Nat} (h : RowFilled s base i t)
    (hroom : s.col + i + 1 < s.cfg.cols) (hb : clientRead s (addressOf base i) ∉ [0x0A, 0x0D, 0x08]) :
    RowFilled s base (i + 1) (putStringByte base i t) := by
  have hcol : t.col + 1 < t.cfg.cols := by rw [h.col, h.screen.cfg]; exact hroom
  have hbyte : clientRead t (addressOf base i) = clientRead s (addressOf base i) := by
    rw [clientRead, h.screen.client, clientRead]
  have hput : putStringByte base i t = syncHw (setCursor t.row (t.col + 1)
      (writeCell t.row t.col (clientRead s (addressOf base i)) t.color t)) := by
    rw [putStringByte, hbyte, putCh_print hb, printByte_room (.inl hcol), if_pos hcol, if_pos hcol]
  have hstep := screenStep_putCh (clientRead t (addressOf base i)) h.screen.cursor
  refine ⟨h.screen.trans (hstep.trans (screenStep_syncHw hstep.cursor)), ?_, ?_, fun _ => hwCursorInv_syncHw _,
    fun r c hc => ?_⟩
  · rw [hput, syncHw_row, setCursor_row, h.row]
  · rw [hput, syncHw_col, setCursor_col, h.col, Nat.add_assoc]
  · rw [hput, cell_syncHw, cell_setCursor, cell_writeCell _ _ _ (by omega) (by rw [h.screen.cfg]; exact hc),
      h.cells r c hc, h.row, h.col, h.screen.color]
    by_cases hnew : r = s.row ∧ c = s.col + i
    · obtain ⟨rfl, rfl⟩ := hnew
      simp
    · rw [if_neg hnew]
      have hiff : (r = s.row ∧ s.col ≤ c ∧ c < s.col + (i + 1)) ↔ r = s.row ∧ s.col ≤ c ∧ c < s.col + i := by
        omega
      simp only [hiff]

/-- Settles O27: the loop fills one cell of the row for each byte, and its last pass ends with `SyncHw`. -/
theorem putStringFillsTheRowInOrder : Obligations.PutStringFillsTheRowInOrder := by
  intro s n hr ha hn hpos hroom hbytes
  have hfilled : RowFilled s s.a0 n (forUp n (putStringByte s.a0) s) :=
    forUp_induct (fun i t => RowFilled s s.a0 i t) (.refl (ready_cursor hr) s.a0) fun i t hi ht =>
      ht.succ (by omega) (hbytes i hi)
  refine ⟨_, exec_putString_length hr ha hn, ?_, fun r _ c hc => hfilled.cells r c hc, hfilled.screen.outside⟩
  have hsynced := hfilled.screen.synced (hfilled.hwCursor hpos) 0
  rw [hfilled.row, hfilled.col] at hsynced
  exact hsynced

/-! ### Colour and cursor commands (R177 to R182) -/

/-- Settles O28: the accepted codes are the byte values, which their low byte determines. -/
theorem setColorChecksAndGetColorReflects : Obligations.SetColorChecksAndGetColorReflects := by
  intro s hr
  have haccept (h0 : 0 ≤ s.a0.toInt) (h256 : s.a0.toInt < 256) :
      exec .setColor s = .next { s with color := byteOf s.a0, r0 := 0 } :=
    exec_setColor_some hr (rangeChecked_some (Int.toNat_of_nonneg h0).symm (by omega))
  refine ⟨haccept, fun hout => exec_setColor_none hr (rangeChecked_none hout), exec_getColor hr, fun h0 h256 => ?_⟩
  exact ⟨_, _, haccept h0 h256, exec_getColor (s := { s with color := byteOf s.a0, r0 := 0 }) hr,
    zextByte_byteOf (Int.toNat_of_nonneg h0).symm (by omega)⟩

/-- SET_CURSOR of a cell of the grid, field by field. -/
theorem exec_setCursor_inside {s : State} {r c : Nat} (h : ready s = true) (h0 : s.a0.toInt = r) (h1 : s.a1.toInt = c)
    (hr : r < s.cfg.rows) (hc : c < s.cfg.cols) :
    exec .setCursor s = .next { s with row := r, col := c, hwcur := hwAt s r c, r0 := 0 } :=
  (exec_setCursor_some h (inGrid_some h0 h1 hr hc)).trans (congrArg Host.Outcome.next (setCursor_synced r c 0 s))

/-- Settles O29: the pair passes the check or it does not. -/
theorem setCursorValidatesBothCoordinates : Obligations.SetCursorValidatesBothCoordinates := fun _ hr =>
  ⟨fun _ _ => exec_setCursor_inside hr, fun hout => exec_setCursor_none hr (inGrid_none hout)⟩

/-- Settles O30: SET_CURSOR leaves a ready state whose cursor is the operands' numbers, and their words are the
operands. -/
theorem getCursorReturnsWhatWasSet : Obligations.GetCursorReturnsWhatWasSet := by
  refine fun s hr => ⟨exec_getCursor hr, fun h0 hrow h1 hcol => ?_⟩
  have hr0 := (Int.toNat_of_nonneg h0).symm
  have hr1 := (Int.toNat_of_nonneg h1).symm
  have hset := exec_setCursor_inside hr hr0 hr1 (by omega) (by omega)
  obtain ⟨hf, -⟩ := ready_iff.mp hr
  exact ⟨_, _, hset, exec_getCursor (ready_of_exec hset hf), (eq_wordOf hr0).symm, (eq_wordOf hr1).symm⟩

/-- Settles O31: `SyncHw` after the flag is set. -/
theorem hideAndShowSetTheHardwareCursor : Obligations.HideAndShowSetTheHardwareCursor := fun _ hr =>
  ⟨exec_hideCursor hr, exec_showCursor hr⟩

/-! ### Grid commands (R183 to R186) -/

theorem GridStep.setR0_eq {s t : State} (h : GridStep s t) (v : Word) :
    setR0 v t = { s with r0 := v, grid := t.grid } := by
  rw [h.rest]
  rfl

/-- Settles O33: the scroll is a step inside the grid, as a simultaneous copy. -/
theorem scrollShiftsRowsUp : Obligations.ScrollShiftsRowsUp := by
  intro s hr
  have hgrid := gridStep_scrollGrid (ready_config hr).rows_pos
  exact ⟨_, exec_scroll hr, hgrid.setR0_eq 0, fun _ hrow _ hcol => cell_scrollGrid hrow hcol, hgrid.outside⟩

/-- Settles O34: the loop is a step inside the grid, and the cursor is set after it. -/
theorem clearBlanksEveryCell : Obligations.ClearBlanksEveryCell := by
  intro s hr
  have hgrid := (gridStep_clearGrid s).with_cursor 0 0
  exact ⟨_, exec_clear hr, hgrid.synced 0,
    fun _ hrow _ hcol => (cell_synced _ _ _ _).trans ((cell_setCursor _ _ _ _ _).trans (cell_clearGrid hrow hcol)),
    hgrid.synced_outside _⟩

theorem isSome_rangeChecked_iff {v : Word} {n : Nat} :
    (rangeChecked v n).isSome = true ↔ 0 ≤ v.toInt ∧ v.toInt < n := by
  rw [rangeChecked, Option.isSome_ite]

/-- The check of DRAW_CHARACTER's colour and character, as ranges. -/
theorem drawArgsOk_iff {s : State} : DrawArgsOk s ↔ (0 ≤ s.a3.toInt ∧ s.a3.toInt < 256)
    ∧ (s.cfg.drawChCheck = .truncate ∨ 0 ≤ s.a2.toInt ∧ s.a2.toInt < 256) := by
  rw [DrawArgsOk, drawChOk, Bool.or_eq_true, beq_iff_eq, isSome_rangeChecked_iff, isSome_rangeChecked_iff]
  rfl

/-- Settles O35: one cell is written when the coordinates and the two values pass, none otherwise. -/
theorem drawCharacterWritesOneCheckedCell : Obligations.DrawCharacterWritesOneCheckedCell := by
  refine fun s hr => ⟨fun r c h0 h1 hrow hcol h3 h3' hch => ?_, fun hbad => ?_⟩
  · have hgrid := gridStep_writeCell (byteOf s.a2) (byteOf s.a3) hrow hcol
    exact ⟨_, exec_drawCharacter_valid hr (inGrid_some h0 h1 hrow hcol) (drawArgsOk_iff.mpr ⟨⟨h3, h3'⟩, hch⟩),
      hgrid.setR0_eq 0, cell_writeCell_same _ _ hcol, fun _ => gridRead_writeCell_other _ _⟩
  · refine exec_drawCharacter_invalid hr ?_
    by_cases hout : s.a0.toInt < 0 ∨ s.cfg.rows ≤ s.a0.toInt ∨ s.a1.toInt < 0 ∨ s.cfg.cols ≤ s.a1.toInt
    · exact .inl (inGrid_none hout)
    · right
      rw [drawArgsOk_iff]
      rintro ⟨hcolor, htrunc | hch⟩
      · have hne : s.cfg.drawChCheck ≠ .check := by simp [htrunc]
        simp only [hne, false_and, or_false] at hbad
        omega
      · omega

/-- Settles O36: the cell is read, or the fault is set. -/
theorem readCharacterAtReadsOrFaults : Obligations.ReadCharacterAtReadsOrFaults := fun _ hr =>
  ⟨fun _ _ h0 h1 hrow hcol => exec_readCharacterAt_some hr (inGrid_some h0 h1 hrow hcol),
    fun hout => exec_readCharacterAt_none hr (inGrid_none hout)⟩

/-! ### The console and the rest of the state (R187, spec/10_state.md R46) -/

theorem carrierOf_of_isConsoleCommand {i : Instr} (hi : isConsoleCommand i = true) : carrierOf i = .command := by
  cases i with
  | intTimer | intKbd | intOther => cases hi
  | _ => rfl

/-- An event step leaves the console, delivered or not. -/
theorem takeEvent_consolePart {v d : Byte} {s t : State} (h : takeEvent v d s = .next t) :
    consolePart t = consolePart s := by
  obtain ⟨-, ⟨-, rfl⟩ | ⟨-, -, rfl⟩ | ⟨-, rfl⟩⟩ := takeEvent_cases h
  · rfl
  · rfl
  · rw [dispatch_rest]
    rfl

/-- Of the instructions that are no console commands none writes the console. -/
theorem exec_consolePart {i : Instr} {s t : State} (h : exec i s = .next t) (hi : isConsoleCommand i = false) :
    consolePart t = consolePart s := by
  obtain ⟨-, he⟩ := exec_cases h
  cases i with
  | installInterrupts =>
    rw [he, installInterrupts_effect]
    rfl
  | readCharacter =>
    rw [he, pollKey_rest]
    rfl
  | installTimer | getTicks | reserved =>
    rw [he]
    rfl
  | intTimer | intKbd | intOther => exact takeEvent_consolePart he
  | _ => cases hi

theorem ScreenStep.devices {s t : State} (h : ScreenStep s t) :
    dispatcherPart t = dispatcherPart s ∧ timerPart t = timerPart s ∧ keyboardPart t = keyboardPart s
      ∧ t.out = s.out := by
  rw [h.rest]
  exact ⟨rfl, rfl, rfl, rfl⟩

theorem Effect.devices_of_console {i : Instr} {s t : State} (he : Effect s i t) (hi : isConsoleCommand i = true) :
    dispatcherPart t = dispatcherPart s ∧ timerPart t = timerPart s ∧ keyboardPart t = keyboardPart s
      ∧ t.out = s.out := by
  cases he with
  | installed | timerInstalled | polled => cases hi
  | served event => cases event.symm.trans (carrierOf_of_isConsoleCommand hi)
  | displayed _ _ screen _ => exact screen.devices
  | _ => exact ⟨rfl, rfl, rfl, rfl⟩

/-- Settles O54: the other instructions one by one, the console commands by their kinds of effect. -/
theorem consoleIsTouchedByConsoleCommandsOnly : Obligations.ConsoleIsTouchedByConsoleCommandsOnly := fun _ _ _ h =>
  ⟨exec_consolePart h, (exec_effect h).devices_of_console⟩

/-! ### The bounds of the grid and of the cursor (R188) -/

theorem Effect.keeps_bounds {i : Instr} {s t : State} (he : Effect s i t) (hr : ready s = true) :
    (∀ a, ¬ InGridSpace s.cfg a → gridRead t a = gridRead s a) ∧ CursorInv t := by
  have hcur := ready_cursor hr
  cases he with
  | displayed _ _ screen _ => exact ⟨screen.outside, screen.cursor⟩
  | _ => exact ⟨fun _ _ => rfl, hcur⟩

/-- Settles O58: only the screen operations write the grid or the cursor, and they keep to the grid. -/
theorem noStepWritesOutsideTheGrid : Obligations.NoStepWritesOutsideTheGrid := by
  intro s t h
  obtain ⟨i, rest, hexec⟩ | ⟨hr, inbox, busData, draws, a0, a1, a2, a3, rfl⟩ := step_exec_or_bus h
  · exact (exec_effect hexec).keeps_bounds (exec_ready hexec)
  · exact ⟨fun _ _ => rfl, ready_cursor hr⟩

/-! ### Console commands and events change places (R187, spec/00_scope.md R11) -/

/-- `s` with what an event can write, the tick counter, the producer's side of the ring and the outputs, as in `x`. -/
def withEvent (x s : State) : State :=
  { s with ticks := x.ticks, kbuf := x.kbuf, khead := x.khead, kcount := x.kcount, out := x.out }

section
variable (x s : State)

@[simp] theorem withEvent_a0 : (withEvent x s).a0 = s.a0 := rfl
@[simp] theorem withEvent_a1 : (withEvent x s).a1 = s.a1 := rfl
@[simp] theorem withEvent_a2 : (withEvent x s).a2 = s.a2 := rfl
@[simp] theorem withEvent_a3 : (withEvent x s).a3 = s.a3 := rfl
@[simp] theorem drawChOk_withEvent : drawChOk (withEvent x s) = drawChOk s := rfl

end

theorem offScreen_withEvent (x : State) : OffScreen (withEvent x) :=
  ⟨fun _ => rfl, fun _ => rfl, fun _ => rfl, fun _ => rfl, fun _ => rfl, fun _ => rfl, fun _ _ _ => rfl, fun _ => rfl,
    fun _ _ _ => rfl⟩

/-- What a delivered event writes depends on the parameters, the timer, the keyboard and the outputs only. -/
theorem dispatch_eq_withEvent {s t : State} (hcfg : t.cfg = s.cfg) (htimer : timerPart t = timerPart s)
    (hkbd : keyboardPart t = keyboardPart s) (hout : t.out = s.out) (v d : Byte) :
    dispatch v d t = withEvent (dispatch v d s) t := by
  simp only [timerPart, keyboardPart, Prod.mk.injEq] at htimer hkbd
  obtain ⟨hticks, hcb, -⟩ := htimer
  obtain ⟨hkbuf, hkhead, -, hkcount, -⟩ := hkbd
  unfold dispatch
  rw [hcfg]
  split
  · rw [timerHandler_eq, timerHandler_eq]
    simp only [acknowledge, emit, withEvent, hcfg, hticks, hcb, hout, hkbuf, hkhead, hkcount]
  · split
    · simp only [kbdHandler, kbdPush, hcfg, hkcount]
      split <;> simp only [acknowledge, emit, withEvent, kbufWrite, hcfg, hticks, hout, hkbuf, hkhead, hkcount]
    · simp only [emit, withEvent, hticks, hout, hkbuf, hkhead, hkcount]

/-- The effect of a console command as a function, which can change places with `withEvent`. -/
theorem exec_console_commutes {i : Instr} (hi : isConsoleCommand i = true) (x : State) :
    ∃ f : State → State, (∀ s, exec i s = whenReady s (.next (f s)))
      ∧ ∀ s, f (withEvent x s) = withEvent x (f s) := by
  have hg := offScreen_withEvent x
  cases i with
  | putCharacter =>
    refine ⟨_, fun _ => rfl, fun s => ?_⟩
    rw [hg.putCh, hg.syncHw]
    rfl
  | putString =>
    refine ⟨_, fun _ => rfl, fun s => ?_⟩
    simp only [withEvent_a0, withEvent_a1, hg.putString]
    split <;> rfl
  | setColor =>
    refine ⟨_, fun _ => rfl, fun s => ?_⟩
    simp only [withEvent_a0]
    split <;> rfl
  | setCursor | readCharacterAt =>
    refine ⟨_, fun _ => rfl, fun s => ?_⟩
    simp only [withEvent_a0, withEvent_a1, hg.cfg]
    split <;> rfl
  | drawCharacter =>
    refine ⟨_, fun _ => rfl, fun s => ?_⟩
    simp only [withEvent_a0, withEvent_a1, withEvent_a2, withEvent_a3, drawChOk_withEvent, hg.cfg, hg.writeCell]
    split
    · split <;> rfl
    · rfl
  | clear =>
    refine ⟨_, fun _ => rfl, fun s => ?_⟩
    rw [hg.clearGrid, hg.setCursor, hg.syncHw]
    rfl
  | scroll =>
    refine ⟨_, fun _ => rfl, fun s => ?_⟩
    rw [hg.scrollGrid]
    rfl
  | getColor | getCursor | hideCursor | showCursor => exact ⟨_, fun _ => rfl, fun _ => rfl⟩
  | _ => cases hi

/-- A console command neither reads nor writes what an event writes. -/
theorem exec_withEvent {i : Instr} {s t : State} (hi : isConsoleCommand i = true) (h : exec i s = .next t) (x : State)
    (hx : ready (withEvent x s) = true) : exec i (withEvent x s) = .next (withEvent x t) := by
  obtain ⟨f, hexec, hcomm⟩ := exec_console_commutes hi x
  rw [hexec] at h ⊢
  cases (whenReady_next h).2
  rw [whenReady_ready hx, hcomm]

theorem ready_dispatch {s : State} (v d : Byte) (hr : ready s = true) : ready (dispatch v d s) = true := by
  have he := effect_dispatch (i := .intOther v d) rfl v d hr
  refine (he.keeps_ready hr).resolve_right (not_not_intro ?_)
  rw [dispatch_rest]
  exact (ready_iff.mp hr).1

/-- A console command and a delivered event, whatever its vector. -/
theorem console_takeEvent_comm {i : Instr} {s t u : State} {v d : Byte} (hi : isConsoleCommand i = true)
    (hd : Deliverable s v) (h : exec i s = .next t) (hu : takeEvent v d t = .next u) :
    ∃ t', takeEvent v d s = .next t' ∧ exec i t' = .next u := by
  have hr := exec_ready h
  have he := exec_effect h
  obtain ⟨hdisp, htimer, hkbd, hout⟩ := he.devices_of_console hi
  obtain ⟨hcfg, -⟩ := he.cfg_client
  obtain ⟨hrt, -⟩ := takeEvent_cases hu
  have hdt : Deliverable t v := by
    simp only [dispatcherPart, Prod.mk.injEq] at hdisp
    obtain ⟨hie, hloaded, -, hgates⟩ := hdisp
    rwa [Deliverable, gateAt, hie, hloaded, hgates]
  have hself : dispatch v d s = withEvent (dispatch v d s) s := dispatch_rest v d s
  have hx : ready (withEvent (dispatch v d s) s) = true := hself ▸ ready_dispatch v d hr
  cases hu.symm.trans (takeEvent_deliverable d hrt hdt)
  refine ⟨_, (takeEvent_deliverable d hr hd).trans (congrArg Host.Outcome.next hself), ?_⟩
  rw [dispatch_eq_withEvent hcfg htimer hkbd hout]
  exact exec_withEvent hi h (dispatch v d s) hx

/-- Settles O59: the vector of each of the two events is that of the parameters, which no command changes. -/
theorem consoleCommandsCommuteWithEvents : Obligations.ConsoleCommandsCommuteWithEvents := by
  intro i e s t u hi hevent h hu
  obtain ⟨hcfg, -⟩ := (exec_effect h).cfg_client
  obtain ⟨⟨d, rfl⟩, hd⟩ | ⟨⟨d, rfl⟩, hd⟩ := hevent
  · exact console_takeEvent_comm hi hd h (hcfg ▸ hu)
  · exact console_takeEvent_comm hi hd h (hcfg ▸ hu)

end Sys2Proof.Machine

namespace Sys2Proof.Machine

/-! ## The model faults and disabled events (spec/60_exceptions.md R216, R218, R221)

Which fault an instruction sets and when. An event sets the fault of its own vector, READ_CHARACTER_AT that of its own
operands, and no other instruction sets any. -/

/-- Settles O42: an event that is not taken leaves the state (log entry 3). -/
theorem disabledEventsHaveNoEffect : Obligations.DisabledEventsHaveNoEffect := fun _ _ d hr hie =>
  ⟨takeEvent_disabled d hr hie, takeEvent_disabled d hr hie, takeEvent_disabled d hr hie⟩

/-! ### The instructions that set no fault -/

theorem GridStep.fault {s t : State} (h : GridStep s t) : t.fault = s.fault := by rw [h.rest]

/-- Of the commands only READ_CHARACTER_AT writes `FAULT`. -/
theorem exec_command_fault {i : Instr} {s t : State} (h : exec i s = .next t) (hi : carrierOf i = .command)
    (hread : i ≠ .readCharacterAt) : t.fault = s.fault := by
  obtain ⟨hr, he⟩ := exec_cases h
  have hcur := ready_cursor hr
  cases i with
  | intTimer | intKbd | intOther => cases hi
  | readCharacterAt => exact absurd rfl hread
  | installInterrupts => rw [he, installInterrupts_effect]
  | readCharacter =>
    rw [he, pollKey_rest]
    rfl
  | putCharacter =>
    rw [he]
    exact (screenStep_putCh _ hcur).fault
  | putString =>
    obtain rfl | ⟨-, rfl⟩ := he
    · rfl
    · exact (screenStep_putString _ _ hcur).fault
  | setColor => obtain rfl | rfl := he <;> rfl
  | setCursor | drawCharacter => obtain rfl | ⟨r, c, -, rfl⟩ := he <;> rfl
  | clear =>
    rw [he]
    exact (gridStep_clearGrid s).fault
  | scroll =>
    rw [he]
    exact (gridStep_scrollGrid (ready_config hr).rows_pos).fault
  | installTimer | getTicks | getColor | getCursor | hideCursor | showCursor | reserved =>
    rw [he]
    rfl

/-! ### The faults of an event and of READ_CHARACTER_AT -/

/-- The vector an event arrives with; a command has none. -/
def vectorOf (cfg : Config) : Instr → Option Byte
  | .intTimer _ => some cfg.vecTimer
  | .intKbd _ => some cfg.vecKbd
  | .intOther v _ => some v
  | _ => none

theorem vectorOf_eq_some_iff {cfg : Config} {i : Instr} {v : Byte} : vectorOf cfg i = some v ↔
    (∃ d, i = .intTimer d ∧ v = cfg.vecTimer) ∨ (∃ d, i = .intKbd d ∧ v = cfg.vecKbd) ∨ ∃ d, i = .intOther v d := by
  cases i <;> simp [vectorOf, eq_comm]

theorem exec_of_vectorOf {s : State} {i : Instr} {v : Byte} (h : vectorOf s.cfg i = some v) :
    ∃ d, exec i s = takeEvent v d s := by
  obtain ⟨d, rfl, rfl⟩ | ⟨d, rfl, rfl⟩ | ⟨d, rfl⟩ := vectorOf_eq_some_iff.mp h <;> exact ⟨d, rfl⟩

theorem carrierOf_of_vectorOf_eq_none {cfg : Config} {i : Instr} (h : vectorOf cfg i = none) :
    carrierOf i = .command := by
  cases i with
  | intTimer | intKbd | intOther => cases h
  | _ => rfl

/-- Entry through vector `v` fails: no table, or its gate is not present (R221). A vector beyond the table reads as not
present (log entry 14). -/
abbrev EntryFails (s : State) (v : Byte) : Prop :=
  s.idtLoaded = false ∨ gatePresent (gateAt s v.toNat) = false

theorem not_entryFails_iff {s : State} {v : Byte} :
    ¬ EntryFails s v ↔ s.idtLoaded = true ∧ gatePresent (gateAt s v.toNat) = true := by
  simp [EntryFails]

/-- An event sets a fault exactly when it is taken and its entry fails. -/
theorem takeEvent_fault_iff {v d : Byte} {s t : State} (h : takeEvent v d s = .next t) (f : Fault) :
    t.fault = some f ↔ f = .gateNotPresent v ∧ s.ie = true ∧ EntryFails s v := by
  obtain ⟨hr, hcases⟩ := takeEvent_cases h
  obtain ⟨hnone, -⟩ := ready_iff.mp hr
  obtain ⟨hie, rfl⟩ | ⟨hie, hgate, rfl⟩ | ⟨⟨-, hgate⟩, rfl⟩ := hcases
  · simp [hnone, hie]
  · have hfails : EntryFails s v := not_imp_comm.mp not_entryFails_iff.mp hgate
    simp [raiseFault, hie, hfails, eq_comm]
  · have hpassed : ¬ EntryFails s v := not_entryFails_iff.mpr hgate
    rw [dispatch_rest]
    simp [hnone, hpassed]

/-- The operands name a cell of the grid, as signed ranges (spec/00_scope.md R13 a). -/
abbrev CoordsInGrid (s : State) : Prop :=
  0 ≤ s.a0.toInt ∧ s.a0.toInt < s.cfg.rows ∧ 0 ≤ s.a1.toInt ∧ s.a1.toInt < s.cfg.cols

/-- READ_CHARACTER_AT sets a fault exactly when its coordinates lie outside the grid (spec/43_console.md R186). -/
theorem readCharacterAt_fault_iff {s t : State} (h : exec .readCharacterAt s = .next t) (f : Fault) :
    t.fault = some f ↔ f = .uncheckedReadOutOfRange s.a0 s.a1 ∧ ¬ CoordsInGrid s := by
  have hr := exec_ready h
  obtain ⟨hnone, -⟩ := ready_iff.mp hr
  by_cases hin : CoordsInGrid s
  · have hcell : inGrid s.cfg s.a0 s.a1 = some (s.a0.toInt.toNat, s.a1.toInt.toNat) :=
      inGrid_some (by omega) (by omega) (by omega) (by omega)
    cases h.symm.trans (exec_readCharacterAt_some hr hcell)
    simp [setR0, hnone, hin]
  · cases h.symm.trans (exec_readCharacterAt_none hr (inGrid_none (by omega)))
    simp [raiseFault, hin, eq_comm]

/-! ### Every instruction -/

/-- When an instruction sets a model fault, by the kinds of R216. -/
def SetsFault (s : State) (i : Instr) : Fault → Prop
  | .gateNotPresent v => vectorOf s.cfg i = some v ∧ s.ie = true ∧ EntryFails s v
  | .uncheckedReadOutOfRange r c => i = .readCharacterAt ∧ r = s.a0 ∧ c = s.a1 ∧ ¬ CoordsInGrid s

/-- A fault after an instruction was set by it, an instruction being run in a state without one only. -/
theorem exec_fault_iff {i : Instr} {s t : State} (h : exec i s = .next t) (f : Fault) :
    t.fault = some f ↔ SetsFault s i f := by
  cases hv : vectorOf s.cfg i with
  | some v =>
    obtain ⟨d, he⟩ := exec_of_vectorOf hv
    have hread : i ≠ .readCharacterAt := by
      rintro rfl
      cases hv
    rw [takeEvent_fault_iff (he ▸ h) f]
    cases f with
    | gateNotPresent w =>
      simp only [SetsFault, hv, Fault.gateNotPresent.injEq, Option.some.injEq]
      constructor <;> exact fun ⟨hw, hset⟩ => ⟨hw.symm, hw ▸ hset⟩
    | uncheckedReadOutOfRange r c => simp [SetsFault, hread]
  | none =>
    by_cases hread : i = .readCharacterAt
    · subst hread
      rw [readCharacterAt_fault_iff h f]
      cases f <;> simp [SetsFault, hv, and_assoc]
    · obtain ⟨hnone, -⟩ := ready_iff.mp (exec_ready h)
      rw [exec_command_fault h (carrierOf_of_vectorOf_eq_none hv) hread, hnone]
      cases f <;> simp [SetsFault, hv, hread]

/-- Settles O8: `SetsFault` for each of the two faults, the event's vector written out by the event's class. -/
theorem modelFaultsAreSetExactlyWhenTheSpecSays : Obligations.ModelFaultsAreSetExactlyWhenTheSpecSays :=
  fun _ _ _ h => ⟨fun v => (exec_fault_iff h (.gateNotPresent v)).trans (and_congr_left' vectorOf_eq_some_iff),
    fun r c => exec_fault_iff h (.uncheckedReadOutOfRange r c)⟩

end Sys2Proof.Machine

namespace Sys2Proof.Machine

/-! ## The order of the two install commands (spec/70_reset_and_hazards.md R255) -/

/-! ### What the installed table depends on -/

theorem clearGates_gates_congr {s t : State} (hc : t.cfg = s.cfg) (hg : t.gates = s.gates) :
    (clearGates t).gates = (clearGates s).gates := by
  rw [clearGates, clearGates, hc]
  induction s.cfg.nvec with
  | zero => exact hg
  | succ n ih => exact congrArg (Store.write gateDraw · n 0) ih

/-- The table INSTALL_INTERRUPTS writes depends on the parameters and the old table only. -/
theorem installGates_gates_congr {s t : State} (hc : t.cfg = s.cfg) (hg : t.gates = s.gates) :
    (installGates t).gates = (installGates s).gates := by
  simp only [installGates, gateWrite, hc, clearGates_gates_congr hc hg]

/-- INSTALL_TIMER changes nothing that the table of a later INSTALL_INTERRUPTS depends on. -/
theorem installGates_gates_of_exec_installTimer {s t : State} (h : exec .installTimer s = .next t) :
    (installGates t).gates = (installGates s).gates := by
  cases h.symm.trans (exec_installTimer (exec_ready h))
  exact installGates_gates_congr rfl rfl

/-! ### The two orders -/

/-- Settles O16: each first command leaves a ready state, so both second commands answer. The two commands write the
elements they share (`TIMER_ARMED`, `R0`) alike, and INSTALL_TIMER leaves what the gate table is made from. -/
theorem installCommandsCommuteUpToTheTrace : Obligations.InstallCommandsCommuteUpToTheTrace := by
  intro s hr
  obtain ⟨hf, -⟩ := ready_iff.mp hr
  have htimer := exec_installTimer hr
  have hinterrupts := exec_installInterrupts hr
  refine ⟨_, _, _, _, htimer, exec_installInterrupts (ready_of_exec htimer hf),
    hinterrupts, exec_installTimer (ready_of_exec_installInterrupts hinterrupts), ?_, ?_, ?_⟩
  · rw [installGates_gates_of_exec_installTimer htimer]
  · exact List.append_assoc ..
  · exact List.append_assoc ..

end Sys2Proof.Machine
